-- ==== Sys2Proof/Word.lean ====
section
/-! DEFINITION. The word types of the block (spec R10, R11): unsigned bit vectors of fixed widths. -/

namespace Sys2Proof

/-- One byte of IBUF, and every 8-bit register of the block (R10, R50). -/
abbrev Byte := BitVec 8

/-- The width of the CRC accumulator (R30). -/
abbrev Word16 := BitVec 16

end Sys2Proof
end

