-- ==== Sys2Proof/Config.lean ====
section
/-! DEFINITION. The implementation parameters (spec R8, R9, 93_implementation_defined.md section 1). A `Config` is
plain data that `State` holds and that no step writes, so that a statement about every state holds for every choice of
the parameters. -/

namespace Sys2Proof

/-- The parameters that R9 and section 1 of 93_implementation_defined.md leave to an implementation, with the defaults
of R8. `lenW` (LEN_W) is OPEN in the spec and `ibufDepth` (IBUF_DEPTH) is the platform's: their defaults here are a
DESIGN CHOICE (log 1), and no statement rests on them. -/
structure Config where
  /-- FLAG_BYTE. -/
  flagByte : Byte := 0x7E
  /-- ESC_BYTE. -/
  escByte : Byte := 0x7D
  /-- ESC_XOR, the bit that destuffing inverts. -/
  escXor : Byte := 0x20
  /-- CRC_POLY_R, the bit-reflected polynomial. -/
  crcPolyR : Word16 := 0x8408
  /-- CRC_SEED. -/
  crcSeed : Word16 := 0xFFFF
  /-- CRC_GOOD, the residue of a valid frame. -/
  crcGood : Word16 := 0xF0B8
  /-- CMD_UP, the command byte of UP (R82). -/
  cmdUp : Byte := 0x01
  /-- CMD_DOWN. -/
  cmdDown : Byte := 0x02
  /-- CMD_RIGHT. -/
  cmdRight : Byte := 0x03
  /-- CMD_LEFT. -/
  cmdLeft : Byte := 0x04
  /-- LEN_W, the width of `LEN`, `len` and `ptr` (OPEN in the spec, log 1). -/
  lenW : Nat := 16
  /-- IBUF_DEPTH, the number of bytes IBUF holds (the platform's, log 1). -/
  ibufDepth : Nat := 65535
  deriving DecidableEq, Repr

/-- The parameters at the defaults of R8. -/
def Config.std : Config := {}

/-- MIN_RAW_INTERIOR: a closed frame with fewer raw interior bytes is too short (R8, R128). -/
def Config.minRawInterior : Nat := 4

/-- DEB_SLOTS, the capacity of the debounce window (R8). -/
def Config.debSlots : Nat := 3

/-- GRID_MAX: each axis lies in 0 .. GRID_MAX (R8, R200). -/
def Config.gridMax : Int := 4

/-- START_X (R8, R281). -/
def Config.startX : BitVec 3 := 0

/-- START_Y (R8, R281). -/
def Config.startY : BitVec 3 := 4

end Sys2Proof
end

