-- ==== Sys2Proof/Syntax.lean ====
section
/-! DEFINITION. The decoded forms of the block: one constructor of `Instr` per row of spec/opcode_table.json (spec R86),
and the classes that each decoding layer answers. -/

namespace Sys2Proof

/-- A move command (R15, R82). -/
inductive Command where
  | up
  | down
  | right
  | left
  deriving DecidableEq, Repr

/-- The type of a frame (R78, R130). -/
inductive FrameType where
  | data
  | acknowledge
  | negativeAcknowledge
  deriving DecidableEq, Repr

/-- The decoded forms, in the order of spec/opcode_table.json. -/
inductive Instr where
  /-- FLAG.boundary: a flag byte read with rc = 0 (R154). -/
  | flagBoundary
  /-- FLAG.close: a flag byte read with rc > 0 (R155). -/
  | flagClose
  /-- ESC: the escape byte read with esc = 0 (R122). -/
  | esc
  /-- ESCAPED: the raw byte `b` read with esc = 1 (R123). -/
  | escaped (b : Byte)
  /-- ESC_PAIR: the two raw bytes ESC_BYTE, `b` (R72). -/
  | escPair (b : Byte)
  /-- LIT: the literal raw byte `b` (R121). -/
  | lit (b : Byte)
  /-- I: a Data frame's control byte; `ign` is bits 4:1, never read (R75, R131). -/
  | iFrame (ign : BitVec 4) (seq : BitVec 3)
  /-- RR: receive ready; `ign` is bits 4 and 1, never read (R75, R132). -/
  | rr (ign : BitVec 2) (seq : BitVec 3)
  /-- RNR: receive not ready (R133). -/
  | rnr (ign : BitVec 2) (seq : BitVec 3)
  /-- REJ: reject (R134). -/
  | rej (ign : BitVec 2) (seq : BitVec 3)
  /-- SREJ: selective reject (R135). -/
  | srej (ign : BitVec 2) (seq : BitVec 3)
  /-- UP (R201). -/
  | up
  /-- DOWN (R202). -/
  | down
  /-- RIGHT (R203). -/
  | right
  /-- LEFT (R204). -/
  | left
  /-- INVALID_COMMAND: an illegal command byte, or no payload byte at all (R83, R158). -/
  | invalidCommand (cmd : Option Byte)
  /-- RESET: rst = 1; `start` may be any (R84, R280). -/
  | reset (start : Bool)
  /-- START: rst = 0 and start = 1, with `len` as sampled (R84, R222, R223). -/
  | start (len : Nat)
  /-- NONE: rst = 0 and start = 0, the phase's own step (R84, R221). -/
  | noStrobe
  deriving DecidableEq, Repr

/-- The class of a raw byte (R71), FLAG split by `rc` as R86 says. -/
inductive RawClass where
  | flagBoundary
  | flagClose
  | esc
  | escaped (b : Byte)
  | lit (b : Byte)
  deriving DecidableEq, Repr

/-- The class of a control byte with its fields (R75, R76). -/
inductive ControlClass where
  | iFrame (ign : BitVec 4) (seq : BitVec 3)
  | rr (ign : BitVec 2) (seq : BitVec 3)
  | rnr (ign : BitVec 2) (seq : BitVec 3)
  | rej (ign : BitVec 2) (seq : BitVec 3)
  | srej (ign : BitVec 2) (seq : BitVec 3)
  deriving DecidableEq, Repr

/-- The class of a Data frame's command field (R82, R83). -/
inductive CommandClass where
  | valid (c : Command)
  | invalid (field : Option Byte)
  deriving DecidableEq, Repr

/-- The decoding layers of 30_encoding.md, each with the context its decoder reads besides the bytes: `esc` and whether
a frame is open (rc > 0) for a raw byte (R71), the sampled `len` for the strobes (R84). -/
inductive Layer where
  | raw (esc frameOpen : Bool)
  | pair
  | control
  | command
  | strobe (len : Nat)
  deriving DecidableEq, Repr

/-- Why a decoder refuses its bytes. -/
inductive DecodeReject where
  /-- the layer needs a byte and there is none -/
  | noByte
  /-- the first byte of an escape pair is not ESC_BYTE (R72) -/
  | notAnEscape
  /-- ESC_BYTE followed by FLAG_BYTE encodes no byte (R72, R126) -/
  | escapeThenFlag
  /-- the strobe vector has two bits (R84) -/
  | notAStrobe
  deriving DecidableEq, Repr

/-- A raw-byte class as a decoded form. -/
def RawClass.toInstr : RawClass → Instr
  | .flagBoundary => .flagBoundary
  | .flagClose => .flagClose
  | .esc => .esc
  | .escaped b => .escaped b
  | .lit b => .lit b

/-- A control class as a decoded form. -/
def ControlClass.toInstr : ControlClass → Instr
  | .iFrame g q => .iFrame g q
  | .rr g q => .rr g q
  | .rnr g q => .rnr g q
  | .rej g q => .rej g q
  | .srej g q => .srej g q

/-- A command as a decoded form. -/
def Command.toInstr : Command → Instr
  | .up => .up
  | .down => .down
  | .right => .right
  | .left => .left

/-- A command class as a decoded form. -/
def CommandClass.toInstr : CommandClass → Instr
  | .valid c => c.toInstr
  | .invalid f => .invalidCommand f

end Sys2Proof
end

