-- ==== Sys2Proof/WellFormed.lean ====
section
/-! DEFINITION. What a legal parameter set is (spec 93_implementation_defined.md section 1) and which decoded forms
exist (spec R71, R72, R82, R83, R39). -/

namespace Sys2Proof

/-- The command byte of a command (R82). -/
def Config.commandByte (c : Config) : Command → Byte
  | .up => c.cmdUp
  | .down => c.cmdDown
  | .right => c.cmdRight
  | .left => c.cmdLeft

/-- A command byte lies in 1..4 (R82: the source fixes "1-4", only the assignment is open). -/
def Config.inCommandRange (b : Byte) : Bool := 1#8 ≤ b && b ≤ 4#8

/-- The conditions that section 1 of 93_implementation_defined.md puts on a parameter set (the one on CRC_GOOD is
`Machine.crcConsistent`), and that the command bytes assign 1..4 one to one (log 19). -/
def Config.wf (c : Config) : Bool :=
  decide (1 ≤ c.lenW) && c.flagByte != c.escByte &&
  (c.flagByte ^^^ c.escXor) != c.flagByte && (c.flagByte ^^^ c.escXor) != c.escByte &&
  (c.escByte ^^^ c.escXor) != c.flagByte && (c.escByte ^^^ c.escXor) != c.escByte &&
  inCommandRange c.cmdUp && inCommandRange c.cmdDown && inCommandRange c.cmdRight && inCommandRange c.cmdLeft &&
  c.cmdUp != c.cmdDown && c.cmdUp != c.cmdRight && c.cmdUp != c.cmdLeft &&
  c.cmdDown != c.cmdRight && c.cmdDown != c.cmdLeft && c.cmdRight != c.cmdLeft

/-- Which operands a decoded form may carry: a LIT byte is neither FLAG_BYTE nor ESC_BYTE, an ESCAPED byte and the
second byte of a pair is not FLAG_BYTE (R71, R72), an illegal command byte is none of the four (R83), and `len` fits in
LEN_W bits (R39). -/
def Instr.wf (c : Config) : Instr → Bool
  | .flagBoundary => true
  | .flagClose => true
  | .esc => true
  | .escaped b => b != c.flagByte
  | .escPair b => b != c.flagByte
  | .lit b => b != c.flagByte && b != c.escByte
  | .iFrame _ _ => true
  | .rr _ _ => true
  | .rnr _ _ => true
  | .rej _ _ => true
  | .srej _ _ => true
  | .up => true
  | .down => true
  | .right => true
  | .left => true
  | .invalidCommand none => true
  | .invalidCommand (some b) => b != c.cmdUp && b != c.cmdDown && b != c.cmdRight && b != c.cmdLeft
  | .reset _ => true
  | .start len => decide (len < 2 ^ c.lenW)
  | .noStrobe => true

end Sys2Proof
end

