-- ==== Sys2Proof/Decode.lean ====
section
/-! DEFINITION. The decoders of the four encoding layers (spec 30_encoding.md R70 to R84), total on any bytes, and the
encoder beside them. -/

namespace Sys2Proof

/-- The class of a raw byte read in SCAN (R71, R153). The FLAG test comes first: a flag byte is a boundary even right
after an escape byte. `frameOpen` is rc > 0, which splits FLAG into its two rows (R86). -/
def rawClass (c : Config) (esc frameOpen : Bool) (b : Byte) : RawClass :=
  if b = c.flagByte then (if frameOpen then .flagClose else .flagBoundary)
  else if esc then .escaped b
  else if b = c.escByte then .esc
  else .lit b

/-- SEQ, bits 7:5 of a control byte (R75, R77). -/
def controlSeq (b : Byte) : BitVec 3 := b.extractLsb' 5 3

/-- Bits 4:1 of an I control byte, never read (R75). -/
def controlIgnI (b : Byte) : BitVec 4 := b.extractLsb' 1 4

/-- Bits 4 and 1 of a supervisory control byte, never read (R75). -/
def controlIgnS (b : Byte) : BitVec 2 := b.extractLsb' 4 1 ++ b.extractLsb' 1 1

/-- The class of a control byte, by the masks and matches of R76. -/
def controlClass (b : Byte) : ControlClass :=
  if b &&& 0x01 = 0x00 then .iFrame (controlIgnI b) (controlSeq b)
  else if b &&& 0x0D = 0x01 then .rr (controlIgnS b) (controlSeq b)
  else if b &&& 0x0D = 0x05 then .rnr (controlIgnS b) (controlSeq b)
  else if b &&& 0x0D = 0x09 then .rej (controlIgnS b) (controlSeq b)
  else .srej (controlIgnS b) (controlSeq b)

/-- The command that a command byte encodes, if any (R82, R83). -/
def commandOf (c : Config) (b : Byte) : Option Command :=
  if b = c.cmdUp then some .up
  else if b = c.cmdDown then some .down
  else if b = c.cmdRight then some .right
  else if b = c.cmdLeft then some .left
  else none

/-- The class of a Data frame's command field; the field is absent when the frame has no payload byte (R83, R136). -/
def commandClass (c : Config) (field : Option Byte) : CommandClass :=
  match field with
  | none => .invalid none
  | some b =>
    match commandOf c b with
    | some k => .valid k
    | none => .invalid (some b)

/-- The host operation on the inputs `rst` and `start`, with the sampled `len` (R84). -/
def strobeInstr (rst start : Bool) (len : Nat) : Instr :=
  if rst then .reset start else if start then .start len else .noStrobe

/-- The decoder: the form at the head of `bytes` in a layer, and the bytes after it. -/
def decode (c : Config) (l : Layer) (bytes : List Byte) : Except DecodeReject (Instr × List Byte) :=
  match l, bytes with
  | .raw _ _, [] => .error .noByte
  | .raw e o, b :: rest => .ok ((rawClass c e o b).toInstr, rest)
  | .pair, [] => .error .noByte
  | .pair, [b] => if b = c.escByte then .error .noByte else .error .notAnEscape
  | .pair, e :: b :: rest =>
    if e = c.escByte then
      (if b = c.flagByte then .error .escapeThenFlag else .ok (.escPair b, rest))
    else .error .notAnEscape
  | .control, [] => .error .noByte
  | .control, b :: rest => .ok ((controlClass b).toInstr, rest)
  | .command, [] => .ok (.invalidCommand none, [])
  | .command, b :: rest => .ok ((commandClass c (some b)).toInstr, rest)
  | .strobe _, [] => .error .noByte
  | .strobe len, b :: rest =>
    if b &&& 0xFC = 0x00 then .ok (strobeInstr (b.getLsbD 1) (b.getLsbD 0) len, rest) else .error .notAStrobe

/-- The control byte with its fields put in place (R75): `ss` is SS, `t` the type bit of a supervisory frame. -/
def encodeSupervisory (ss : BitVec 2) (ign : BitVec 2) (seq : BitVec 3) : Byte :=
  seq ++ ign.extractLsb' 1 1 ++ ss ++ ign.extractLsb' 0 1 ++ 1#1

/-- The encoder: the bytes of a form, from the tables of R71, R72, R76, R82 and R84. The strobes are the vector
{rst, start} in bits 1:0. -/
def encode (c : Config) : Instr → List Byte
  | .flagBoundary => [c.flagByte]
  | .flagClose => [c.flagByte]
  | .esc => [c.escByte]
  | .escaped b => [b]
  | .escPair b => [c.escByte, b]
  | .lit b => [b]
  | .iFrame ign seq => [seq ++ ign ++ 0#1]
  | .rr ign seq => [encodeSupervisory 0#2 ign seq]
  | .rnr ign seq => [encodeSupervisory 1#2 ign seq]
  | .rej ign seq => [encodeSupervisory 2#2 ign seq]
  | .srej ign seq => [encodeSupervisory 3#2 ign seq]
  | .up => [c.cmdUp]
  | .down => [c.cmdDown]
  | .right => [c.cmdRight]
  | .left => [c.cmdLeft]
  | .invalidCommand none => []
  | .invalidCommand (some b) => [b]
  | .reset st => [if st then 0x03 else 0x02]
  | .start _ => [0x01]
  | .noStrobe => [0x00]

/-- How many bytes a form's encoding has (R87): two for the escape pair, none for a missing payload byte. -/
def Instr.byteCount : Instr → Nat
  | .flagBoundary => 1
  | .flagClose => 1
  | .esc => 1
  | .escaped _ => 1
  | .escPair _ => 2
  | .lit _ => 1
  | .iFrame _ _ => 1
  | .rr _ _ => 1
  | .rnr _ _ => 1
  | .rej _ _ => 1
  | .srej _ _ => 1
  | .up => 1
  | .down => 1
  | .right => 1
  | .left => 1
  | .invalidCommand none => 0
  | .invalidCommand (some _) => 1
  | .reset _ => 1
  | .start _ => 1
  | .noStrobe => 1

/-- The layers, with their context, in which a form's bytes decode to it (the `esc` and `rc` conditions of R71; `esc` is
any for FLAG). -/
def Instr.inLayer : Instr → Layer → Bool
  | .flagBoundary, l => match l with | .raw _ o => !o | _ => false
  | .flagClose, l => match l with | .raw _ o => o | _ => false
  | .esc, l => match l with | .raw e _ => !e | _ => false
  | .escaped _, l => match l with | .raw e _ => e | _ => false
  | .escPair _, l => match l with | .pair => true | _ => false
  | .lit _, l => match l with | .raw e _ => !e | _ => false
  | .iFrame _ _, l => match l with | .control => true | _ => false
  | .rr _ _, l => match l with | .control => true | _ => false
  | .rnr _ _, l => match l with | .control => true | _ => false
  | .rej _ _, l => match l with | .control => true | _ => false
  | .srej _ _, l => match l with | .control => true | _ => false
  | .up, l => match l with | .command => true | _ => false
  | .down, l => match l with | .command => true | _ => false
  | .right, l => match l with | .command => true | _ => false
  | .left, l => match l with | .command => true | _ => false
  | .invalidCommand _, l => match l with | .command => true | _ => false
  | .reset _, l => match l with | .strobe _ => true | _ => false
  | .start len, l => match l with | .strobe k => decide (k = len) | _ => false
  | .noStrobe, l => match l with | .strobe _ => true | _ => false

/-- The rows of spec/opcode_table.json that fix bits, as (mask, match, layer), the row with most fixed bits first and
rows of equally many in table order. A strobe row is a two-bit vector, so the bits above it must be 0 (R84). A raw byte
is read as after reset, with esc = 0 and no frame open. -/
def tableRows : List (Nat × Nat × Layer) :=
  [(0xFF, 0x7E, .raw false false), (0xFF, 0x7D, .raw false false),
   (0xFF, 0x01, .command), (0xFF, 0x02, .command), (0xFF, 0x03, .command), (0xFF, 0x04, .command)] ++
  [(0x0D, 0x01, .control), (0x0D, 0x05, .control), (0x0D, 0x09, .control), (0x0D, 0x0D, .control),
   (0xFF, 0x01, .strobe 0), (0xFF, 0x00, .strobe 0), (0x01, 0x00, .control)]

/-- The form that a decoder reads when it takes exactly all of its bytes. -/
def decodeWhole (c : Config) (l : Layer) (bytes : List Byte) : Option Instr :=
  match decode c l bytes with
  | .ok (i, []) => some i
  | .ok (_, _ :: _) => none
  | .error _ => none

/-- The form of a word of spec/opcode_table.json, at the default parameters. One byte value stands in rows of several
layers (0x01 is RR, UP and START), and the word does not say which layer is meant, so the most specific row that takes
the word decides the layer (log 11). The one 16-bit row, ESC_PAIR, has its first byte in bits 15:8, as the table numbers
it. -/
def decodeTableWord (nbits w : Nat) : Option Instr :=
  if nbits ≤ 2 then decodeWhole Config.std (.strobe 0) [BitVec.ofNat 8 w]
  else if nbits ≤ 8 then
    match tableRows.find? (fun r => w &&& r.1 == r.2.1) with
    | some r => decodeWhole Config.std r.2.2 [BitVec.ofNat 8 w]
    | none => none
  else if nbits ≤ 16 then decodeWhole Config.std .pair [BitVec.ofNat 8 (w >>> 8), BitVec.ofNat 8 w]
  else none

end Sys2Proof
end

