-- ==== Sys2Proof/Machine/State.lean ====
section
/-! DEFINITION. The state of the block (spec 10_state.md R20 to R37), with the parameters, IBUF and the inputs of the
steps to come, which R20 and R221 make parameters and inputs of a step (log 2, 3, 4). -/

namespace Sys2Proof.Machine

/-- The sequencer state (R22). The reserved codes 6 and 7 are not representable (log 14). -/
inductive Phase where
  | idle
  | check
  | scan
  | drain
  | done
  | error
  deriving DecidableEq, Repr

/-- The error kinds (R250). `noMessage` has a code and no rule raises it (R256). -/
inductive ErrorKind where
  | noStartFlag
  | noEndFlag
  | noMessage
  | tooShort
  | checksumInvalid
  | invalidCommand
  deriving DecidableEq, Repr

/-- The frame-local decoder registers (R27 to R31). -/
structure Frame where
  /-- escape pending (R29) -/
  esc : Bool
  /-- raw interior bytes, saturating (R27) -/
  rc : BitVec 3
  /-- destuffed bytes, saturating (R28) -/
  n : BitVec 3
  /-- the running CRC (R30) -/
  crc : Word16
  /-- d[0] (R31) -/
  addr : Byte
  /-- d[1] (R31) -/
  ctrl : Byte
  /-- d[2] (R31) -/
  cmdb : Byte
  deriving DecidableEq, Repr

/-- The debounce window (R32, R33). `none` is the slot code 0; the codes 5 to 7, and cursor 3, are not representable
(log 14). -/
structure Window where
  slot0 : Option Command
  slot1 : Option Command
  slot2 : Option Command
  cur : Fin 3
  deriving DecidableEq, Repr

/-- The registered outputs (R36, R37). The default of every field is the 0 that each step begins by writing (R229). -/
structure Outputs where
  evValid : Bool := false
  evCmd : BitVec 3 := 0
  evChanged : Bool := false
  frmValid : Bool := false
  frmType : BitVec 2 := 0
  frmSeq : BitVec 3 := 0
  frmAddr : Byte := 0
  deriving DecidableEq, Repr

/-- What the host does at one step: the strobes, the `len` port, and its IBUF writes in order (R39, R53, R221, R232).
The defaults are an inactive host. -/
structure HostIn where
  rst : Bool := false
  start : Bool := false
  len : Nat := 0
  writes : List Host.Cell := []
  deriving DecidableEq, Repr

/-- IBUF: (address, byte) pairs with rising addresses and no byte equal to what an unlisted address reads as. -/
abbrev Memory := List Host.Cell

/-- The state. -/
structure State where
  /-- the parameters; no step writes them (R8, log 2) -/
  cfg : Config
  /-- the input buffer (R50, R51); only the host writes it (R53) -/
  ibuf : Memory
  /-- the host's inputs at the steps to come, the next one first; past its end the host is inactive (R221, log 4) -/
  inputs : List HostIn
  /-- R22 -/
  phase : Phase
  /-- LEN (R23) -/
  len : Nat
  /-- the scan cursor, the block's program counter (R24) -/
  ptr : Nat
  /-- the drain counter (R25) -/
  dk : Fin 3
  /-- R26 -/
  errCode : BitVec 3
  /-- R27 to R31 -/
  fr : Frame
  /-- R32, R33 -/
  win : Window
  /-- R35 -/
  x : BitVec 3
  /-- R35 -/
  y : BitVec 3
  /-- R36, R37 -/
  out : Outputs
  deriving DecidableEq, Repr

/-- Why the model has no move. Each is SAFE: the model stops where the spec gives the situation no step. -/
inductive Fault where
  /-- raised by a SCAN step with ptr >= LEN: R52 and R58 give such an address no byte; no run reaches it (R40 item 9) -/
  | scanOutsideIbuf
  /-- raised by START with len > IBUF_DEPTH, "stuck" in 93_implementation_defined.md section 1 (R287 item 2) -/
  | lenBeyondIbuf
  /-- raised by the host port when the host writes IBUF with busy = 1, "stuck" in 93 section 1 (R53, R287 item 1) -/
  | hostWriteWhileBusy
  /-- raised by the host port when the host writes IBUF in the START step itself; R232 makes it finish before (log 7) -/
  | hostWriteAtStart
  /-- raised by the host port when the host writes an address IBUF does not have (R58) -/
  | hostWriteOutsideIbuf
  deriving DecidableEq, Repr

/-- What the model does not model. SAFE: a refused step proves nothing. -/
inductive Refusal where
  /-- raised by an arm of `exec` whose instruction has no meaning yet; no arm raises it now -/
  | notModelled (mnemonic : String)
  deriving DecidableEq, Repr

/-- The frame-local registers at a boundary: R120's `frame_reset`, and their reset values (R281). -/
def Frame.fresh (c : Config) : Frame :=
  { esc := false, rc := 0, n := 0, crc := c.crcSeed, addr := 0x00, ctrl := 0x00, cmdb := 0x00 }

/-- The empty window with its cursor at 0 (R222, R281). -/
def Window.empty : Window := { slot0 := none, slot1 := none, slot2 := none, cur := 0 }

/-- The state after RESET (R281) of a block with given parameters, IBUF content and inputs to come. -/
def State.resetWith (c : Config) (ibuf : Memory) (inputs : List HostIn) : State :=
  { cfg := c, ibuf := ibuf, inputs := inputs, phase := .idle, len := 0, ptr := 0, dk := 0, errCode := 0,
    fr := Frame.fresh c, win := Window.empty, x := Config.startX, y := Config.startY, out := {} }

/-- The machine right after reset (R281, R283): parameters at their defaults, nothing listed in IBUF, an inactive host. -/
def State.reset : State := State.resetWith Config.std [] []

end Sys2Proof.Machine
end

