-- ==== Sys2Proof/Machine/Flags.lean ====
section
/-! DEFINITION. The checksum and the flags: CRC_UPDATE and CRC_CHECK (spec 40_checksum.md), the triple comparator
(R182), the status flags (R38) and the codes that the output ports show (R22, R32, R78, R250). -/

namespace Sys2Proof.Machine

/-- One shift of R101's loop: the value shifted right, with the polynomial XORed in when a one falls out. -/
def crcShift (poly v : Word16) : Word16 :=
  if v.getLsbD 0 then (v >>> 1) ^^^ poly else v >>> 1

/-- `k` shifts. -/
def crcShifts (poly : Word16) : Nat → Word16 → Word16
  | 0, v => v
  | k + 1, v => crcShifts poly k (crcShift poly v)

/-- The table entry T[i] (R101). -/
def crcTable (poly : Word16) (i : Byte) : Word16 := crcShifts poly 8 (i.setWidth 16)

/-- CRC_UPDATE (R102), with the polynomial as a parameter. -/
def crcStep (poly c : Word16) (b : Byte) : Word16 :=
  (c >>> 8) ^^^ crcTable poly ((c ^^^ b.setWidth 16).setWidth 8)

/-- CRC_UPDATE (R102) of a parameter set. -/
def crcUpdate (cfg : Config) (c : Word16) (b : Byte) : Word16 := crcStep cfg.crcPolyR c b

/-- The bitwise form of CRC_UPDATE (R105). -/
def crcBitwise (poly c : Word16) (b : Byte) : Word16 := crcShifts poly 8 (c ^^^ b.setWidth 16)

/-- The accumulator after a byte sequence (R30, R103). -/
def crcFold (cfg : Config) (c : Word16) (bs : List Byte) : Word16 := bs.foldl (crcUpdate cfg) c

/-- The FCS of a body (R104): the ones' complement of the CRC over it. -/
def fcs (cfg : Config) (body : List Byte) : Word16 := crcFold cfg cfg.crcSeed body ^^^ 0xFFFF

/-- The FCS bytes as a producer sends them, low byte first (R104). -/
def fcsBytes (cfg : Config) (body : List Byte) : List Byte :=
  [(fcs cfg body).extractLsb' 0 8, (fcs cfg body).extractLsb' 8 8]

/-- CRC_GOOD is the residue that the polynomial gives under R104's convention, the condition that section 1 of
93_implementation_defined.md puts on the CRC parameters. -/
def crcConsistent (cfg : Config) : Bool :=
  crcFold cfg cfg.crcSeed (fcsBytes cfg []) == cfg.crcGood

/-- CRC_CHECK's `crc_ok` (R103). -/
def crcOk (cfg : Config) (crc : Word16) : Bool := crc == cfg.crcGood

/-- TRIPLE (R182): three equal non-empty slots. -/
def triple (s0 s1 s2 : Option Command) : Bool := s0 == s1 && s1 == s2 && s0 != none

/-- `busy` (R38). -/
def State.busy (s : State) : Bool :=
  match s.phase with
  | .check => true
  | .scan => true
  | .drain => true
  | .idle => false
  | .done => false
  | .error => false

/-- `done` (R38). -/
def State.done (s : State) : Bool := s.phase == .done

/-- `err` (R38). -/
def State.err (s : State) : Bool := s.phase == .error

/-- The codes of the phases (R22). -/
def Phase.code : Phase → BitVec 3
  | .idle => 0
  | .check => 1
  | .scan => 2
  | .drain => 3
  | .done => 4
  | .error => 5

/-- The codes of the errors, as written to `err_code` (R250). -/
def ErrorKind.code : ErrorKind → BitVec 3
  | .noStartFlag => 1
  | .noEndFlag => 2
  | .noMessage => 3
  | .tooShort => 4
  | .checksumInvalid => 5
  | .invalidCommand => 6

/-- The codes of the frame types, as written to `frm_type` (R78). -/
def frameTypeCode : FrameType → BitVec 2
  | .data => 0
  | .acknowledge => 1
  | .negativeAcknowledge => 2

/-- A command's byte value in 3 bits, as written to `ev_cmd` (R36, R82). -/
def commandCode (cfg : Config) (k : Command) : BitVec 3 := (cfg.commandByte k).setWidth 3

/-- The 3-bit code of a debounce slot: 0 when empty, else the command byte (R32). -/
def slotCode (cfg : Config) : Option Command → BitVec 3
  | none => 0
  | some k => commandCode cfg k

end Sys2Proof.Machine
end

