-- ==== Sys2Proof/Machine/Operands.lean ====
section
/-! DEFINITION. The operand forms: the saturating counters (spec R13), the destuffed byte (R72), the control byte's type
and sequence number (R77, R130), the command field (R136), and the clamped adder (R200). -/

namespace Sys2Proof.Machine

/-- `sat_inc` on a 3-bit counter (R13, R27). -/
def satInc (v : BitVec 3) : BitVec 3 := if v = 7 then 7 else v + 1

/-- The destuffed byte of an escaped raw byte (R72, R123). -/
def destuffed (cfg : Config) (b : Byte) : Byte := b ^^^ cfg.escXor

/-- CLASSIFY, `classify_type` (R130): it reads bits 0 and 3 only. -/
def classifyType (ctrl : Byte) : FrameType :=
  if ctrl.getLsbD 0 = false then .data
  else if ctrl.getLsbD 3 = false then .acknowledge
  else .negativeAcknowledge

/-- The command field of the closing Data frame: d[2] when n >= 5, absent otherwise (R136). -/
def Frame.commandField (f : Frame) : Option Byte := if 5#3 ≤ f.n then some f.cmdb else none

/-- The frame holds fewer than MIN_RAW_INTERIOR raw bytes (R128). -/
def Frame.tooShort (f : Frame) : Bool := decide (f.rc.toNat < Config.minRawInterior)

/-- `clamp` over the integers (R13, R200). -/
def clamp (i : Int) : Int := min (max i 0) Config.gridMax

/-- STEP_AXIS, the clamped adder (R200). -/
def stepAxis (v : BitVec 3) (delta : Int) : BitVec 3 := BitVec.ofInt 3 (clamp (v.toNat + delta))

/-- The position after one command (R201 to R205). -/
def moved (k : Command) (x y : BitVec 3) : BitVec 3 × BitVec 3 :=
  match k with
  | .up => (x, stepAxis y (-1))
  | .down => (x, stepAxis y 1)
  | .right => (stepAxis x 1, y)
  | .left => (stepAxis x (-1), y)

end Sys2Proof.Machine
end

