-- ==== Sys2Proof/Machine/Ops.lean ====
section
/-! DEFINITION. The named operations over IBUF and the registers: memory, the frame registers (spec R120, R124, R125),
the error entry and the returns from it (R252, R260), the window (R181, R183), the position (R205), the frame report
(R127), the scan cursor (R153) and the host port (R221, R232). -/

namespace Sys2Proof.Machine

/-! ## IBUF -/

/-- What an address reads as that IBUF does not list (DESIGN CHOICE, log 3). -/
def Memory.unlisted : Byte := 0x00

/-- `MemRead(a, 1)` (R52). -/
def Memory.read : Memory → Nat → Byte
  | [], _ => unlisted
  | (k, v) :: t, a => if a = k then v else Memory.read t a

/-- A host write of one byte (R53), keeping the canonical form. -/
def Memory.write : Memory → Nat → Byte → Memory
  | [], a, b => if b = unlisted then [] else [(a, b)]
  | (k, v) :: t, a, b =>
    if a < k then (if b = unlisted then (k, v) :: t else (a, b) :: (k, v) :: t)
    else if a = k then (if b = unlisted then t else (a, b) :: t)
    else (k, v) :: Memory.write t a b

/-- Host writes in order. -/
def Memory.writeAll (m : Memory) (ws : List Host.Cell) : Memory := ws.foldl (fun m w => m.write w.1 w.2) m

/-- The canonical form: addresses strictly rising, and no entry equal to what an unlisted address reads as. -/
abbrev Memory.wf (m : Memory) : Prop :=
  m.Pairwise (fun p q => p.1 < q.1) ∧ ∀ p ∈ m, p.2 ≠ unlisted

/-! ## Frame registers -/

/-- FRAME_RESET (R120). -/
def frameReset (s : State) : State := { s with fr := Frame.fresh s.cfg }

/-- R125: a non-flag raw byte counts as raw interior. -/
def Frame.countRaw (f : Frame) : Frame := { f with rc := satInc f.rc }

/-- `accept(d)`, the placement of one destuffed byte (R124). -/
def Frame.accept (cfg : Config) (f : Frame) (d : Byte) : Frame :=
  { f with
    crc := crcUpdate cfg f.crc d
    addr := if f.n = 0 then d else f.addr
    ctrl := if f.n = 1 then d else f.ctrl
    cmdb := if f.n = 2 then d else f.cmdb
    n := satInc f.n }

/-- LIT on the frame registers (R121). -/
def Frame.literal (cfg : Config) (f : Frame) (b : Byte) : Frame := f.countRaw.accept cfg b

/-- ESC on the frame registers (R122). -/
def Frame.escape (f : Frame) : Frame := { f.countRaw with esc := true }

/-- ESCAPED on the frame registers (R123). -/
def Frame.escaped (cfg : Config) (f : Frame) (b : Byte) : Frame :=
  { f.countRaw with esc := false }.accept cfg (destuffed cfg b)

/-! ## Errors -/

/-- `raise E`, the error entry (R252): this machine's one exception. Nothing else is written; there is no handler and no
saved context (R259). -/
def raiseError (e : ErrorKind) (s : State) : State := { s with errCode := e.code, phase := .error }

/-- How an operation ends inside a step: it goes on, or it raised an error and the step makes no further write (R252). -/
inductive Flow where
  | goes (s : State)
  | raised (s : State)
  deriving DecidableEq, Repr

/-- The state a step leaves, where `f` is what remains of the step when nothing was raised. -/
def Flow.finish (f : State → State) : Flow → State
  | .goes s => f s
  | .raised s => s

/-- START accepted, `start_run` (R222). It is also the return from an error that begins a new run (R260). -/
def startRun (len : Nat) (s : State) : State :=
  { s with
    len := len, ptr := 0, dk := 0, errCode := 0, fr := Frame.fresh s.cfg, win := Window.empty,
    x := Config.startX, y := Config.startY, phase := .check }

/-- `reset_state` (R280, R281), the other return from an error (R260). IBUF, the parameters and the inputs to come are
not state of the block and stay (R20, log 20). -/
def resetState (s : State) : State := State.resetWith s.cfg s.ibuf s.inputs

/-! ## Position -/

/-- EMIT (R205): one released command moves the position and records its event. -/
def emit (k : Command) (s : State) : State :=
  let p := moved k s.x s.y
  { s with
    x := p.1
    y := p.2
    out := { s.out with
      evValid := true
      evCmd := commandCode s.cfg k
      evChanged := p.1 != s.x || p.2 != s.y } }

/-! ## Window -/

/-- The slot at an index. -/
def Window.slot (w : Window) (i : Fin 3) : Option Command :=
  match i with
  | 0 => w.slot0
  | 1 => w.slot1
  | 2 => w.slot2

/-- The window with one slot replaced. -/
def Window.setSlot (w : Window) (i : Fin 3) (v : Option Command) : Window :=
  match i with
  | 0 => { w with slot0 := v }
  | 1 => { w with slot1 := v }
  | 2 => { w with slot2 := v }

/-- The oldest entry, the slot at the cursor (R180). -/
def Window.oldest (w : Window) : Option Command := w.slot w.cur

/-- All three slots emptied; the cursor stays. -/
def Window.clear (w : Window) : Window := { w with slot0 := none, slot1 := none, slot2 := none }

/-- Actions 2, 3 and 4 of PUSH (R181): insert, check after the insertion, advance. -/
def Window.insert (w : Window) (k : Command) : Window :=
  let w1 := w.setSlot w.cur (some k)
  let w2 := if triple w1.slot0 w1.slot1 w1.slot2 then w1.clear else w1
  { w2 with cur := w.cur + 1 }

/-- A released slot: an empty one releases nothing (R181, R183). -/
def emitSlot (o : Option Command) (s : State) : State :=
  match o with
  | some k => emit k s
  | none => s

/-- PUSH (R181): the oldest entry is emitted before the insertion. -/
def push (k : Command) (s : State) : State :=
  { emitSlot s.win.oldest s with win := s.win.insert k }

/-! ## Scan cursor and phases -/

/-- ENTER_DRAIN (R161). -/
def enterDrain (s : State) : State := { s with phase := .drain, dk := 0 }

/-- The end of a SCAN step that raised nothing (R153): the cursor moves on, and the step that read address LEN - 1
enters DRAIN. -/
def advance (s : State) : State :=
  let t := { s with ptr := s.ptr + 1 }
  if s.ptr + 1 = s.len then enterDrain t else t

/-! ## Frame close -/

/-- The diagnostic registers of a classified frame (R127, R130). -/
def report (ty : FrameType) (seq : BitVec 3) (s : State) : State :=
  { s with out := { s.out with
      frmValid := true
      frmType := frameTypeCode ty
      frmSeq := seq
      frmAddr := s.fr.addr } }

/-- What becomes of a Data frame's command field (R157, R158). -/
def dataOutcome (s : State) : Flow :=
  match commandClass s.cfg s.fr.commandField with
  | .valid k => .goes (push k s)
  | .invalid _ => .raised (raiseError .invalidCommand s)

/-! ## Host port -/

/-- The host's input at this step; an inactive host past the end of the list (log 4). -/
def State.input (s : State) : HostIn := s.inputs.headD {}

/-- The state with this step's input taken. -/
def State.dropInput (s : State) : State := { s with inputs := s.inputs.tail }

/-- `len` as the port of LEN_W bits shows it (R39, log 15). -/
def lenPort (cfg : Config) (len : Nat) : Nat := len % 2 ^ cfg.lenW

/-- The host's IBUF writes of this step (R53, R232): the duties of the host that a write can break are stops (R287). -/
def hostWrites (inp : HostIn) (s : State) : Host.Outcome State Fault Refusal :=
  if inp.writes = [] then .next s
  else if s.busy then .fault .hostWriteWhileBusy
  else if inp.start && !inp.rst then .fault .hostWriteAtStart
  else if inp.writes.all (fun w => w.1 < s.cfg.ibufDepth) then .next { s with ibuf := s.ibuf.writeAll inp.writes }
  else .fault .hostWriteOutsideIbuf

/-- The default output writes with which every step begins (R229). -/
def defaultOutputs (s : State) : State := { s with out := {} }

/-- The host operation of this step (R84), with `len` as its port shows it. -/
def State.strobe (s : State) : Instr :=
  strobeInstr s.input.rst s.input.start (lenPort s.cfg s.input.len)

end Sys2Proof.Machine
end

