-- ==== Sys2Proof/Machine/Command.lean ====
section
/-! DEFINITION. The command-byte forms (spec 44_position.md R201 to R205, 42_frame_stream.md R158): what a released
command does, and what an illegal command field does. -/

namespace Sys2Proof.Machine

/-- UP (R201, applied as R205 says). -/
def execUp (s : State) : Host.Outcome State Fault Refusal := .next (emit .up s)

/-- DOWN (R202). -/
def execDown (s : State) : Host.Outcome State Fault Refusal := .next (emit .down s)

/-- RIGHT (R203). -/
def execRight (s : State) : Host.Outcome State Fault Refusal := .next (emit .right s)

/-- LEFT (R204). -/
def execLeft (s : State) : Host.Outcome State Fault Refusal := .next (emit .left s)

/-- INVALID_COMMAND (R83, R158): the error entry, whichever illegal byte, and with no byte. -/
def execInvalidCommand (_field : Option Byte) (s : State) : Host.Outcome State Fault Refusal :=
  .next (raiseError .invalidCommand s)

end Sys2Proof.Machine
end

