-- ==== Sys2Proof/Machine/Control.lean ====
section
/-! DEFINITION. The control-byte forms (spec 41_frame_decoder.md R131 to R135): what the close of a frame of each class
does once its length and checksum are checked (R127), up to the outcome's consumption (R157 to R159). -/

namespace Sys2Proof.Machine

/-- Class I at the close (R131): the report, then the Data outcome (R157, R158). -/
def closeData (seq : BitVec 3) (s : State) : Flow := dataOutcome (report .data seq s)

/-- A supervisory class at the close: the report and nothing else (R159). -/
def closeSkip (ty : FrameType) (seq : BitVec 3) (s : State) : Flow := .goes (report ty seq s)

/-- The close by control class (R76, R127). -/
def closeClass (k : ControlClass) (s : State) : Flow :=
  match k with
  | .iFrame _ seq => closeData seq s
  | .rr _ seq => closeSkip .acknowledge seq s
  | .rnr _ seq => closeSkip .acknowledge seq s
  | .rej _ seq => closeSkip .negativeAcknowledge seq s
  | .srej _ seq => closeSkip .negativeAcknowledge seq s

/-- I (R131). -/
def execIFrame (_ign : BitVec 4) (seq : BitVec 3) (s : State) : Host.Outcome State Fault Refusal :=
  .next ((closeData seq s).finish id)

/-- RR (R132). -/
def execRr (_ign : BitVec 2) (seq : BitVec 3) (s : State) : Host.Outcome State Fault Refusal :=
  .next ((closeSkip .acknowledge seq s).finish id)

/-- RNR (R133). -/
def execRnr (_ign : BitVec 2) (seq : BitVec 3) (s : State) : Host.Outcome State Fault Refusal :=
  .next ((closeSkip .acknowledge seq s).finish id)

/-- REJ (R134). -/
def execRej (_ign : BitVec 2) (seq : BitVec 3) (s : State) : Host.Outcome State Fault Refusal :=
  .next ((closeSkip .negativeAcknowledge seq s).finish id)

/-- SREJ (R135). -/
def execSrej (_ign : BitVec 2) (seq : BitVec 3) (s : State) : Host.Outcome State Fault Refusal :=
  .next ((closeSkip .negativeAcknowledge seq s).finish id)

end Sys2Proof.Machine
end

