-- ==== Sys2Proof/Machine/Stream.lean ====
section
/-! DEFINITION. The raw-byte forms (spec 41_frame_decoder.md R121 to R128, 42_frame_stream.md R153 to R160) and the
escape pair (30_encoding.md R72). Each is the whole SCAN step that reads its byte. -/

namespace Sys2Proof.Machine

/-- FLAG at an empty boundary (R154). -/
def execFlagBoundary (s : State) : Host.Outcome State Fault Refusal := .next (advance (frameReset s))

/-- CLOSE_FRAME with its outcome consumed (R127, R155): the checks in the order of R254, then the control class. -/
def closeFrame (s : State) : Flow :=
  if s.fr.tooShort then .raised (raiseError .tooShort s)
  else if !crcOk s.cfg s.fr.crc then .raised (raiseError .checksumInvalid s)
  else closeClass (controlClass s.fr.ctrl) s

/-- FLAG closing a frame (R155). -/
def execFlagClose (s : State) : Host.Outcome State Fault Refusal :=
  .next ((closeFrame s).finish (fun t => advance (frameReset t)))

/-- ESC (R122). -/
def execEsc (s : State) : Host.Outcome State Fault Refusal := .next (advance { s with fr := s.fr.escape })

/-- ESCAPED (R123). -/
def execEscaped (b : Byte) (s : State) : Host.Outcome State Fault Refusal :=
  .next (advance { s with fr := s.fr.escaped s.cfg b })

/-- LIT (R121). -/
def execLit (b : Byte) (s : State) : Host.Outcome State Fault Refusal :=
  .next (advance { s with fr := s.fr.literal s.cfg b })

/-- ESC_PAIR (R72): the two SCAN steps that read ESC_BYTE and then `b` (log 13). -/
def execEscPair (b : Byte) (s : State) : Host.Outcome State Fault Refusal :=
  match execEsc s with
  | .next t => execEscaped b t
  | .fault r => .fault r
  | .refused r => .refused r

end Sys2Proof.Machine
end

