-- ==== Sys2Proof/Machine/HostOps.lean ====
section
/-! DEFINITION. The host-strobe forms (spec 45_sequencer.md, 70_reset_and_hazards.md R280): RESET, START, and NONE, which
is the phase's own step (R221). -/

namespace Sys2Proof.Machine

/-- The class of the raw byte that a SCAN step reads (R71, R153). -/
def State.rawClass (s : State) : RawClass :=
  Sys2Proof.rawClass s.cfg s.fr.esc (s.fr.rc != 0) (s.ibuf.read s.ptr)

/-- The step of one raw-byte class. -/
def execRaw (k : RawClass) (s : State) : Host.Outcome State Fault Refusal :=
  match k with
  | .flagBoundary => execFlagBoundary s
  | .flagClose => execFlagClose s
  | .esc => execEsc s
  | .escaped b => execEscaped b s
  | .lit b => execLit b s

/-- SCAN_STEP (R153). -/
def scanStep (s : State) : Host.Outcome State Fault Refusal :=
  if s.ptr < s.len then execRaw s.rawClass s else .fault .scanOutsideIbuf

/-- CHECK_BUFFER (R150, R151, R152). -/
def checkBuffer (s : State) : State :=
  if s.len = 0 then enterDrain s
  else if s.ibuf.read 0 ≠ s.cfg.flagByte then raiseError .noStartFlag s
  else if s.ibuf.read (s.len - 1) ≠ s.cfg.flagByte then raiseError .noEndFlag s
  else { s with phase := .scan }

/-- DRAIN_STEP (R183). -/
def drainStep (s : State) : State :=
  let i := s.win.cur + s.dk
  let t := { emitSlot (s.win.slot i) s with win := s.win.setSlot i none }
  if s.dk = 2 then { t with phase := .done } else { t with dk := s.dk + 1 }

/-- The phase's own step (R221). IDLE, DONE and ERROR hold (R227, R228, R230). -/
def phaseStep (s : State) : Host.Outcome State Fault Refusal :=
  match s.phase with
  | .idle => .next s
  | .check => .next (checkBuffer s)
  | .scan => scanStep s
  | .drain => .next (drainStep s)
  | .done => .next s
  | .error => .next s

/-- RESET (R280), whatever `start` is. -/
def execReset (_start : Bool) (s : State) : Host.Outcome State Fault Refusal := .next (resetState s)

/-- START: a new run in IDLE, DONE or ERROR (R222), nothing but the phase's own step while busy (R223). A run with
len > IBUF_DEPTH is stuck (R287, log 8). -/
def execStart (len : Nat) (s : State) : Host.Outcome State Fault Refusal :=
  if s.busy then phaseStep s
  else if len ≤ s.cfg.ibufDepth then .next (startRun len s)
  else .fault .lenBeyondIbuf

/-- NONE (R84, R221). -/
def execNoStrobe (s : State) : Host.Outcome State Fault Refusal := phaseStep s

end Sys2Proof.Machine
end

