-- ==== Sys2Proof/Machine/Dispatch.lean ====
section
/-! DEFINITION. The meaning of each decoded form: one arm per constructor of Instr. -/

namespace Sys2Proof.Machine

def exec (i : Instr) (s : State) : Host.Outcome State Fault Refusal :=
  match i with
  | .flagBoundary => Sys2Proof.Machine.execFlagBoundary s
  | .flagClose => Sys2Proof.Machine.execFlagClose s
  | .esc => Sys2Proof.Machine.execEsc s
  | .escaped b => Sys2Proof.Machine.execEscaped b s
  | .escPair b => Sys2Proof.Machine.execEscPair b s
  | .lit b => Sys2Proof.Machine.execLit b s
  | .iFrame ign seq => Sys2Proof.Machine.execIFrame ign seq s
  | .rr ign seq => Sys2Proof.Machine.execRr ign seq s
  | .rnr ign seq => Sys2Proof.Machine.execRnr ign seq s
  | .rej ign seq => Sys2Proof.Machine.execRej ign seq s
  | .srej ign seq => Sys2Proof.Machine.execSrej ign seq s
  | .up => Sys2Proof.Machine.execUp s
  | .down => Sys2Proof.Machine.execDown s
  | .right => Sys2Proof.Machine.execRight s
  | .left => Sys2Proof.Machine.execLeft s
  | .invalidCommand field => Sys2Proof.Machine.execInvalidCommand field s
  | .reset st => Sys2Proof.Machine.execReset st s
  | .start len => Sys2Proof.Machine.execStart len s
  | .noStrobe => Sys2Proof.Machine.execNoStrobe s

end Sys2Proof.Machine
end

