-- ==== Sys2Proof/Machine/Present.lean ====
section
/-! DEFINITION. How a decoded form is placed so that the very next step runs it (log 10): a raw byte in IBUF between two
flags, a control byte or an illegal command in a frame about to close, a command in the slot about to drain, a strobe on
the host port. -/

namespace Sys2Proof.Machine

/-- `s` in SCAN at address 1 of the buffer FLAG, `bytes`, FLAG, with the frame registers `f` and an inactive host. -/
def State.scanning (s : State) (bytes : List Byte) (f : Frame) : State :=
  let buf := s.cfg.flagByte :: bytes ++ [s.cfg.flagByte]
  { s with
    ibuf := Memory.writeAll s.ibuf ((List.range buf.length).zip buf)
    inputs := [], phase := .scan, len := buf.length, ptr := 1, errCode := 0, fr := f }

/-- The registers of a frame that passes its checks, with control byte `ctrl`, five destuffed bytes and command byte
`cmdb` (R127). -/
def Frame.closable (cfg : Config) (ctrl cmdb : Byte) : Frame :=
  { esc := false, rc := 5, n := 5, crc := cfg.crcGood, addr := 0x00, ctrl := ctrl, cmdb := cmdb }

/-- `s` about to read the flag that closes a valid frame. -/
def State.closing (s : State) (ctrl cmdb : Byte) : State :=
  s.scanning [s.cfg.flagByte] (Frame.closable s.cfg ctrl cmdb)

/-- `s` about to drain a window whose oldest entry is `k`. -/
def State.draining (s : State) (k : Command) : State :=
  { s with inputs := [], phase := .drain, dk := 0, errCode := 0, win := { Window.empty with slot0 := some k } }

/-- `s` placed so that its next step runs `i`. A command form runs within the DRAIN step that releases it, a control
form within the SCAN step that closes its frame (log 12). -/
def State.presenting (s : State) (i : Instr) : State :=
  let fresh := Frame.fresh s.cfg
  match i with
  | .flagBoundary => s.scanning (encode s.cfg i) fresh
  | .flagClose => s.closing 0x01 0x00
  | .esc => s.scanning (encode s.cfg i) fresh
  | .escaped b => s.scanning [b] { fresh with esc := true, rc := 1 }
  | .escPair _ => s.scanning (encode s.cfg i) fresh
  | .lit _ => s.scanning (encode s.cfg i) fresh
  | .iFrame _ _ => s.closing ((encode s.cfg i).headD 0) s.cfg.cmdUp
  | .rr _ _ => s.closing ((encode s.cfg i).headD 0) s.cfg.cmdUp
  | .rnr _ _ => s.closing ((encode s.cfg i).headD 0) s.cfg.cmdUp
  | .rej _ _ => s.closing ((encode s.cfg i).headD 0) s.cfg.cmdUp
  | .srej _ _ => s.closing ((encode s.cfg i).headD 0) s.cfg.cmdUp
  | .up => s.draining .up
  | .down => s.draining .down
  | .right => s.draining .right
  | .left => s.draining .left
  | .invalidCommand none => s.scanning [s.cfg.flagByte] { Frame.closable s.cfg 0x00 0x00 with n := 4 }
  | .invalidCommand (some b) => s.closing 0x00 b
  | .reset st => { s with inputs := [{ rst := true, start := st }] }
  | .start len => { s with inputs := [{ start := true, len := len }] }
  | .noStrobe => { s with inputs := [] }

end Sys2Proof.Machine
end

