-- ==== Sys2Proof/Machine/Step.lean ====
section
/-! DEFINITION. One step of the sequencer (spec 45_sequencer.md R221), and the placing of a program word. -/

namespace Sys2Proof.Machine

/-- The step (R221): the step's input is taken, the host's IBUF writes land (R53), the seven registered outputs are
written to 0 (R229), and the host operation runs: RESET, START, or the phase's own step. -/
def step (s : State) : Host.Outcome State Fault Refusal :=
  match hostWrites s.input s.dropInput with
  | .next t => exec s.strobe (defaultOutputs t)
  | .fault r => .fault r
  | .refused r => .refused r

/-- `s` with the form of a table word placed where the next step takes it from (log 10, log 11). -/
def State.withFetchWord (s : State) (nbits w : Nat) : State :=
  match decodeTableWord nbits w with
  | some i => s.presenting i
  | none => s

end Sys2Proof.Machine
end

