-- ==== Sys2Proof/Machine/Buffers.lean ====
section
/-! DEFINITION. The producer's side, which the block does not have (spec R74, R104) but which fixes what a valid frame
is: stuffing and the buffer notation of R88. -/

namespace Sys2Proof.Machine

/-- One byte as a producer sends it (R74). -/
def stuffByte (cfg : Config) (b : Byte) : List Byte :=
  if b = cfg.flagByte ∨ b = cfg.escByte then [cfg.escByte, b ^^^ cfg.escXor] else [b]

/-- `stuff` (R88). -/
def stuff (cfg : Config) (bs : List Byte) : List Byte := bs.flatMap (stuffByte cfg)

/-- The raw interior of a frame with a body (address, control, payload): body and FCS, stuffed (R88, R104). -/
def interior (cfg : Config) (body : List Byte) : List Byte := stuff cfg (body ++ fcsBytes cfg body)

/-- `FRAME(a, c, p1, ..., pk)` (R88). -/
def frameOf (cfg : Config) (body : List Byte) : List Byte := cfg.flagByte :: interior cfg body ++ [cfg.flagByte]

/-- `IFRAME(a, s, cmd)` (R88). -/
def iframeOf (cfg : Config) (a : Byte) (s : BitVec 3) (cmd : Byte) : List Byte := frameOf cfg [a, s ++ 0x00#5, cmd]

/-- `RR(a, s)` (R88). -/
def rrOf (cfg : Config) (a : Byte) (s : BitVec 3) : List Byte := frameOf cfg [a, s ++ 0x01#5]

/-- `RNR(a, s)` (R88). -/
def rnrOf (cfg : Config) (a : Byte) (s : BitVec 3) : List Byte := frameOf cfg [a, s ++ 0x05#5]

/-- `REJ(a, s)` (R88). -/
def rejOf (cfg : Config) (a : Byte) (s : BitVec 3) : List Byte := frameOf cfg [a, s ++ 0x09#5]

/-- `SREJ(a, s)` (R88). -/
def srejOf (cfg : Config) (a : Byte) (s : BitVec 3) : List Byte := frameOf cfg [a, s ++ 0x0D#5]

/-- `BADFCS(a, c, p1, ..., pk)` (R88): the low FCS byte with bit 0 flipped. -/
def badFcsOf (cfg : Config) (body : List Byte) : List Byte :=
  let f := fcs cfg body
  cfg.flagByte :: stuff cfg (body ++ [f.extractLsb' 0 8 ^^^ 0x01, f.extractLsb' 8 8]) ++ [cfg.flagByte]

end Sys2Proof.Machine
end

