-- ==== Sys2Proof/Machine/Ports.lean ====
section
/-! DEFINITION. The output ports of the block (spec R38, R39, R52): functions of the state, not state. -/

namespace Sys2Proof.Machine

/-- The output ports of R39. -/
structure Ports where
  busy : Bool
  done : Bool
  err : Bool
  errCode : BitVec 3
  posX : BitVec 3
  posY : BitVec 3
  evValid : Bool
  evCmd : BitVec 3
  evChanged : Bool
  frmValid : Bool
  frmType : BitVec 2
  frmSeq : BitVec 3
  frmAddr : Byte
  ibufRaddr : Nat
  deriving DecidableEq, Repr

/-- What the ports show (R39); `ibuf_raddr` always equals `ptr` (R52). -/
def State.ports (s : State) : Ports :=
  { busy := s.busy, done := s.done, err := s.err, errCode := s.errCode, posX := s.x, posY := s.y,
    evValid := s.out.evValid, evCmd := s.out.evCmd, evChanged := s.out.evChanged,
    frmValid := s.out.frmValid, frmType := s.out.frmType, frmSeq := s.out.frmSeq, frmAddr := s.out.frmAddr,
    ibufRaddr := s.ptr }

/-- Full (R34): no slot is empty. -/
def Window.full (w : Window) : Bool := w.slot0 != none && w.slot1 != none && w.slot2 != none

end Sys2Proof.Machine
end

