-- ==== Sys2Proof/Machine/Slice.lean ====
section
/-! DEFINITION. The slice form of the block, the source's own algorithm (spec R139, R162, R188, R231): a buffer split
into frames, each decoded whole, its command sent through a three-stage shift register. The step does not use it; it is
what the byte-serial step is compared with. -/

namespace Sys2Proof.Machine

/-- Destuffing as a pure function (R139). -/
def destuff (cfg : Config) : List Byte → List Byte
  | [] => []
  | [b] => if b = cfg.escByte then [] else [b]
  | b :: b' :: t =>
    if b = cfg.escByte then destuffed cfg b' :: destuff cfg t else b :: destuff cfg (b' :: t)

/-- A raw interior ends in an unpaired escape (R126, R139). -/
def danglingEscape (cfg : Config) : List Byte → Bool
  | [] => false
  | [b] => b == cfg.escByte
  | b :: b' :: t => if b = cfg.escByte then danglingEscape cfg t else danglingEscape cfg (b' :: t)

/-- The outcome of a frame decoded as a slice (R127). -/
inductive SliceOutcome where
  | error (e : ErrorKind)
  | data (field : Option Byte)
  | skip
  deriving DecidableEq, Repr

/-- `close_frame` as a function of the raw interior (R127, R139). -/
def closeSlice (cfg : Config) (r : List Byte) : SliceOutcome :=
  let d := destuff cfg r
  if r.length < Config.minRawInterior then .error .tooShort
  else if crcFold cfg cfg.crcSeed d ≠ cfg.crcGood then .error .checksumInvalid
  else if classifyType (d.getD 1 0x00) = .data then .data (if 5 ≤ d.length then d[2]? else none)
  else .skip

/-- The maximal runs of non-flag bytes of a buffer, in order (R162); `run` holds the run being read. -/
def framesFrom (cfg : Config) (run : List Byte) : List Byte → List (List Byte)
  | [] => if run = [] then [] else [run]
  | b :: t =>
    if b = cfg.flagByte then
      (if run = [] then framesFrom cfg [] t else run :: framesFrom cfg [] t)
    else framesFrom cfg (run ++ [b]) t

/-- The frames of a buffer (R162). -/
def frames (cfg : Config) (buf : List Byte) : List (List Byte) := framesFrom cfg [] buf

/-- The window as a shift register (R188): `q0` newest, `q2` oldest. -/
structure Shift where
  q0 : Option Command
  q1 : Option Command
  q2 : Option Command
  deriving DecidableEq, Repr

/-- The shift register that a window stands for (R188). -/
def Window.toShift (w : Window) : Shift :=
  { q0 := w.slot (w.cur + 2), q1 := w.slot (w.cur + 1), q2 := w.slot w.cur }

/-- The empty shift register. -/
def Shift.empty : Shift := { q0 := none, q1 := none, q2 := none }

/-- A push in shift form (R188): what it emits is `q2` of the register before it. -/
def Shift.push (q : Shift) (k : Command) : Shift :=
  if triple (some k) q.q0 q.q1 then Shift.empty else { q0 := some k, q1 := q.q0, q2 := q.q1 }

/-- The commands still in the register, in the order the drain emits them (R188). -/
def Shift.pending (q : Shift) : List Command := q.q2.toList ++ q.q1.toList ++ q.q0.toList

/-- The window after a list of pushes (R181). -/
def Window.insertAll (w : Window) (ks : List Command) : Window := ks.foldl Window.insert w

/-- The commands that a list of pushes emits, in order (R181). -/
def Window.emitted : Window → List Command → List Command
  | _, [] => []
  | w, k :: ks => w.oldest.toList ++ (w.insert k).emitted ks

/-- The commands that the drain emits, in order (R183). -/
def Window.drained (w : Window) : List Command := w.toShift.pending

/-- The position after a list of applied commands (R205). -/
def movedAll (p : BitVec 3 × BitVec 3) (ks : List Command) : BitVec 3 × BitVec 3 :=
  ks.foldl (fun q k => moved k q.1 q.2) p

/-- The frames of a run in slice form, from a register and a position (R155, R253): the error that ended it, if any, the
register, and the position. -/
def runFrames (cfg : Config) : List (List Byte) → Shift → BitVec 3 × BitVec 3 →
    Option ErrorKind × Shift × (BitVec 3 × BitVec 3)
  | [], q, p => (none, q, p)
  | r :: rs, q, p =>
    match closeSlice cfg r with
    | .error e => (some e, q, p)
    | .skip => runFrames cfg rs q p
    | .data field =>
      match commandClass cfg field with
      | .invalid _ => (some .invalidCommand, q, p)
      | .valid k => runFrames cfg rs (q.push k) (movedAll p q.q2.toList)

/-- The result of a run in slice form (R231): the error if any, and the final position. The window is drained only when
no error ended the run (R184). -/
def runSlice (cfg : Config) (buf : List Byte) : Option ErrorKind × (BitVec 3 × BitVec 3) :=
  let start := (Config.startX, Config.startY)
  if buf = [] then (none, start)
  else if buf.headD 0x00 ≠ cfg.flagByte then (some .noStartFlag, start)
  else if buf.getLastD 0x00 ≠ cfg.flagByte then (some .noEndFlag, start)
  else
    match runFrames cfg (frames cfg buf) Shift.empty start with
    | (some e, _, p) => (some e, p)
    | (none, q, p) => (none, movedAll p q.pending)

/-- The first `len` bytes of IBUF (R51). -/
def Memory.bytes (m : Memory) (len : Nat) : List Byte := (List.range len).map m.read

/-- The frame registers after a raw interior is read byte by byte (R121 to R125, R156). -/
def Frame.feed (cfg : Config) (f : Frame) (b : Byte) : Frame :=
  match Sys2Proof.rawClass cfg f.esc (f.rc != 0) b with
  | .flagBoundary => Frame.fresh cfg
  | .flagClose => Frame.fresh cfg
  | .esc => f.escape
  | .escaped b => f.escaped cfg b
  | .lit b => f.literal cfg b

/-- The frame registers after a list of raw bytes. -/
def Frame.feedAll (cfg : Config) (f : Frame) (bs : List Byte) : Frame := bs.foldl (Frame.feed cfg) f

/-- A natural number as a 3-bit counter that saturates at 7 (R139). -/
def satCount (k : Nat) : BitVec 3 := BitVec.ofNat 3 (min k 7)

end Sys2Proof.Machine
end

