-- ==== Sys2Proof/Safety.lean ====
section
/-! DEFINITION. What claims call a legal state, a run and a well-behaved host (spec R40, R287, R161, R183). -/

namespace Sys2Proof.Machine

/-- The nine invariants of R40, on any state. -/
structure LegalState (s : State) : Prop where
  /-- item 1 -/
  position : s.x ≤ 4#3 ∧ s.y ≤ 4#3
  /-- item 2 -/
  cursors : s.win.cur.val ≤ 2 ∧ s.dk.val ≤ 2
  /-- item 3 -/
  slots : ∀ i, slotCode s.cfg (s.win.slot i) ≤ 4#3
  /-- item 4 -/
  noTriple : triple s.win.slot0 s.win.slot1 s.win.slot2 = false
  /-- item 5 -/
  closedFrame : s.fr.rc = 0 → s.fr = Frame.fresh s.cfg
  /-- item 6 -/
  counts : s.fr.n ≤ s.fr.rc
  /-- item 7 -/
  phases : s.phase.code ≤ 5#3
  /-- item 8 -/
  errors : s.errCode ≠ 0 ↔ s.phase = .error
  /-- item 9 -/
  scanInside : s.phase = .scan → s.ptr < s.len

/-- R40 with what makes it inductive: legal parameters, LEN within its width (R39), and CHECK entered with ptr = 0
(R222). -/
structure Inv (s : State) : Prop where
  params : s.cfg.wf = true
  legal : LegalState s
  lenFits : s.len < 2 ^ s.cfg.lenW
  checkAtZero : s.phase = .check → s.ptr = 0

/-- What holds along a run besides R40: in SCAN the buffer ends with flags (R150); no frame is open in CHECK (R222),
DRAIN and DONE (R161); in DRAIN the slots before the drain counter are empty, in DONE all are (R183); the cursor stays within LEN
(R24). -/
structure RunInv (s : State) : Prop where
  flagEnds : s.phase = .scan → s.ibuf.read 0 = s.cfg.flagByte ∧ s.ibuf.read (s.len - 1) = s.cfg.flagByte
  frameClosed : s.phase = .check ∨ s.phase = .drain ∨ s.phase = .done → s.fr = Frame.fresh s.cfg
  drainedSlots : s.phase = .drain → ∀ j : Fin 3, j < s.dk → s.win.slot (s.win.cur + j) = none
  windowEmpty : s.phase = .done → ∀ i, s.win.slot i = none
  cursorInside : s.ptr ≤ s.len

/-- The host keeps its duties at the next step (R287, R232): its IBUF writes, if any, come with `busy = 0`, not in the
START step, and inside IBUF; an accepted START has len <= IBUF_DEPTH. -/
def dutiesKept (s : State) : Prop :=
  (s.input.writes ≠ [] →
    s.busy = false ∧ (s.input.start = true → s.input.rst = true) ∧
      ∀ w ∈ s.input.writes, w.1 < s.cfg.ibufDepth) ∧
  (s.input.rst = false → s.input.start = true → s.busy = false → lenPort s.cfg s.input.len ≤ s.cfg.ibufDepth)

/-- The state that the rules of a step start from: the input taken, the outputs written to 0 (R221, R229). -/
def State.begun (s : State) : State := defaultOutputs s.dropInput

/-! ## Frames: what a state keeps -/

/-- `t` has the parameters, the inputs to come, and every byte of IBUF of `s`. -/
def sameWorld (s t : State) : Prop :=
  t.cfg = s.cfg ∧ t.inputs = s.inputs ∧ ∀ a, t.ibuf.read a = s.ibuf.read a

/-- `t` has the position of `s`. -/
def samePosition (s t : State) : Prop := t.x = s.x ∧ t.y = s.y

/-- `t` has the event registers of `s`. -/
def sameEvent (s t : State) : Prop :=
  t.out.evValid = s.out.evValid ∧ t.out.evCmd = s.out.evCmd ∧ t.out.evChanged = s.out.evChanged

/-- `t` has the frame report registers of `s`. -/
def sameReport (s t : State) : Prop :=
  t.out.frmValid = s.out.frmValid ∧ t.out.frmType = s.out.frmType ∧ t.out.frmSeq = s.out.frmSeq ∧
    t.out.frmAddr = s.out.frmAddr

/-- `t` has the sequencer registers of `s`. -/
def sameSequencer (s t : State) : Prop :=
  t.phase = s.phase ∧ t.len = s.len ∧ t.ptr = s.ptr ∧ t.dk = s.dk ∧ t.errCode = s.errCode

/-- `t` is in ERROR with this code, and its other sequencer registers are those of `s` (R252). -/
def enteredError (code : BitVec 3) (s t : State) : Prop :=
  t.phase = .error ∧ t.errCode = code ∧ t.len = s.len ∧ t.ptr = s.ptr ∧ t.dk = s.dk

/-- The cursor moved on by one; the step that read address LEN - 1 entered DRAIN with dk = 0, any other kept the phase
and dk; LEN and err_code are kept (R153, R161). -/
def cursorAdvanced (s t : State) : Prop :=
  t.ptr = s.ptr + 1 ∧ t.len = s.len ∧ t.errCode = s.errCode ∧
    (s.ptr + 1 = s.len → t.phase = .drain ∧ t.dk = 0) ∧
    (s.ptr + 1 ≠ s.len → t.phase = s.phase ∧ t.dk = s.dk)

/-- The frame registers have R120's values. -/
def frameCleared (cfg : Config) (f : Frame) : Prop :=
  f.esc = false ∧ f.rc = 0 ∧ f.n = 0 ∧ f.crc = cfg.crcSeed ∧ f.addr = 0x00 ∧ f.ctrl = 0x00 ∧ f.cmdb = 0x00

/-- `g` is `f` with one more raw byte counted and the destuffed byte `d` placed (R124, R125), apart from `esc`. -/
def placedByte (cfg : Config) (d : Byte) (f g : Frame) : Prop :=
  g.rc.toNat = min (f.rc.toNat + 1) 7 ∧ g.n.toNat = min (f.n.toNat + 1) 7 ∧
    g.crc = crcUpdate cfg f.crc d ∧
    g.addr = (if f.n = 0 then d else f.addr) ∧
    g.ctrl = (if f.n = 1 then d else f.ctrl) ∧
    g.cmdb = (if f.n = 2 then d else f.cmdb)

/-- The window, cursor and position of a run that has just started (R222, R281). -/
def freshRun (t : State) : Prop :=
  t.win.slot0 = none ∧ t.win.slot1 = none ∧ t.win.slot2 = none ∧ t.win.cur = 0 ∧ t.x = 0#3 ∧ t.y = 4#3

/-- Every registered output is 0 (R229). -/
def outputsZero (t : State) : Prop :=
  t.out.evValid = false ∧ t.out.evCmd = 0 ∧ t.out.evChanged = false ∧
    t.out.frmValid = false ∧ t.out.frmType = 0 ∧ t.out.frmSeq = 0 ∧ t.out.frmAddr = 0x00

/-- `t` shows the report of the closing frame of `s` (R127): its type code, ctrl[7:5] and its address byte. -/
def reportsFrame (code : BitVec 2) (seq : BitVec 3) (s t : State) : Prop :=
  t.out.frmValid = true ∧ t.out.frmType = code ∧ t.out.frmSeq = seq ∧ t.out.frmAddr = s.fr.addr

/-- The command `k` was applied to the position of `s` and its event recorded (R205). -/
def appliedCommand (k : Command) (s t : State) : Prop :=
  (t.x, t.y) = moved k s.x s.y ∧ t.out.evValid = true ∧
    t.out.evCmd = (s.cfg.commandByte k).setWidth 3 ∧
    (t.out.evChanged = true ↔ t.x ≠ s.x ∨ t.y ≠ s.y)

/-- The next step of `s` releases the command `k`: it drains a slot that holds it (R183), or it reads the flag that closes
a good Data frame with a legal command, whose push evicts it from the slot at the cursor (R155, R157, R181). -/
def releasesCommand (k : Command) (s : State) : Prop :=
  s.input.rst = false ∧
    ((s.phase = .drain ∧ s.win.slot (s.win.cur + s.dk) = some k) ∨
     (s.phase = .scan ∧ s.ibuf.read s.ptr = s.cfg.flagByte ∧ 4 ≤ s.fr.rc.toNat ∧ s.fr.crc = s.cfg.crcGood ∧
       s.fr.ctrl.getLsbD 0 = false ∧ 5 ≤ s.fr.n.toNat ∧ (∃ c, s.fr.cmdb = s.cfg.commandByte c) ∧
       s.win.slot s.win.cur = some k))

/-- What releasing a slot does: nothing when it is empty, else its command is applied (R181, R183). -/
def releasedSlot (o : Option Command) (s t : State) : Prop :=
  match o with
  | none => samePosition s t ∧ sameEvent s t
  | some k => appliedCommand k s t

/-- PUSH (R181) in its four actions: the entry at the cursor is released; `k` takes its slot; if all three slots then
hold `k` the window is emptied; the cursor moves on modulo 3. -/
def pushedCommand (k : Command) (s t : State) : Prop :=
  releasedSlot (s.win.slot s.win.cur) s t ∧
    t.win.cur = s.win.cur + 1 ∧
    (s.win.slot (s.win.cur + 1) = some k ∧ s.win.slot (s.win.cur + 2) = some k → ∀ i, t.win.slot i = none) ∧
    (¬(s.win.slot (s.win.cur + 1) = some k ∧ s.win.slot (s.win.cur + 2) = some k) →
      ∀ i, t.win.slot i = if i = s.win.cur then some k else s.win.slot i)

end Sys2Proof.Machine
end

