-- ==== Sys2Proof/Certificates/Slice0/Obligations.lean ====
section
/-! DEFINITION. The statements about the model, each citing the rule of the spec that it formalises. -/

open Sys2Proof Sys2Proof.Machine

/-! ## Reset, start, hold -/

/-- R280: RESET, in any state and whatever `start` is, writes every register to its reset value (R281) in one step, and
takes priority over START and every phase (R221). That IBUF, as the step's host writes leave it, the parameters and the
inputs to come stay is the model's reading (log 20, from R20 and R51): R280 does not say it. -/
def Obligations.ResetWritesEveryRegister : Prop :=
  ∀ (st : Bool) (s : State),
    (∃ t, exec (.reset st) s = .next t ∧ t.phase = .idle ∧ t.len = 0 ∧ t.ptr = 0 ∧ t.dk = 0 ∧ t.errCode = 0 ∧
      frameCleared s.cfg t.fr ∧ freshRun t ∧ outputsZero t ∧ sameWorld s t) ∧
    (∀ u, s.input.rst = true → hostWrites s.input s.dropInput = .next u →
      ∃ t, step s = .next t ∧ t.phase = .idle ∧ t.len = 0 ∧ t.ptr = 0 ∧ t.dk = 0 ∧ t.errCode = 0 ∧
        frameCleared s.cfg t.fr ∧ freshRun t ∧ outputsZero t ∧ sameWorld u t)

/-- R222: START in IDLE, DONE or ERROR, with len inside IBUF (R287), begins a new run: every named register is
re-initialised, phase is CHECK, so `busy` is 1 and `done` and `err` are 0, and nothing else changes. -/
def Obligations.StartBeginsARun : Prop :=
  ∀ (len : Nat) (s : State), s.phase = .idle ∨ s.phase = .done ∨ s.phase = .error → len ≤ s.cfg.ibufDepth →
    ∃ t, exec (.start len) s = .next t ∧ t.phase = .check ∧ t.len = len ∧ t.ptr = 0 ∧ t.dk = 0 ∧ t.errCode = 0 ∧
      frameCleared s.cfg t.fr ∧ freshRun t ∧ t.busy = true ∧ t.done = false ∧ t.err = false ∧
      sameEvent s t ∧ sameReport s t ∧ sameWorld s t

/-- R223, R233, R290: while busy, START is the phase's own step; a step answers the same whatever `start` and `len` are
while busy, and whatever `len` is when `start = 0`. -/
def Obligations.StartAndLenHaveNoEffectOutsideStart : Prop :=
  (∀ (len : Nat) (s : State), s.busy = true → exec (.start len) s = exec .noStrobe s) ∧
  (∀ (s : State) (h : HostIn) (rest : List HostIn) (st st' : Bool) (l l' : Nat),
    s.busy = true ∨ (st = false ∧ st' = false) →
      step { s with inputs := { h with start := st, len := l } :: rest } =
        step { s with inputs := { h with start := st', len := l' } :: rest })

/-- Where the host breaks a duty the model has no move, and stops under a name of its own. Clauses 1 and 2 are the spec's
(R287 items 2 and 1, 93_implementation_defined.md section 1): a START with len > IBUF_DEPTH, and an IBUF write while busy.
Clauses 3 and 4 are the model's choice: an IBUF write in an accepted START step (log 7, from R232), and an IBUF write
outside IBUF (log 9, from R58). -/
def Obligations.BrokenHostDutiesStop : Prop :=
  ∀ s : State,
    (∀ len, s.busy = false → s.cfg.ibufDepth < len → exec (.start len) s = .fault .lenBeyondIbuf) ∧
    (s.input.writes ≠ [] → s.busy = true → step s = .fault .hostWriteWhileBusy) ∧
    (s.input.writes ≠ [] → s.busy = false → s.input.start = true → s.input.rst = false →
      step s = .fault .hostWriteAtStart) ∧
    (s.busy = false → (s.input.start = true → s.input.rst = true) →
      (∃ w ∈ s.input.writes, s.cfg.ibufDepth ≤ w.1) → step s = .fault .hostWriteOutsideIbuf)

/-- R227, R228, R230: IDLE, DONE and ERROR hold; a step with `start = 0` and `rst = 0` there changes nothing but the
default output writes (R229), whatever the host wrote to IBUF in it. -/
def Obligations.HoldPhasesChangeNothing : Prop :=
  ∀ s : State, s.phase = .idle ∨ s.phase = .done ∨ s.phase = .error →
    exec .noStrobe s = .next s ∧
    (∀ u, s.input.rst = false → s.input.start = false → hostWrites s.input s.dropInput = .next u →
      step s = .next { u with out := {} } ∧ u = { s with inputs := s.inputs.tail, ibuf := u.ibuf })

/-! ## CHECK and DRAIN -/

/-- R150, R151, R152, R224: the one step of CHECK. -/
def Obligations.CheckBufferOutcome : Prop :=
  ∀ s : State, s.phase = .check →
    ∃ t, exec .noStrobe s = .next t ∧ t.len = s.len ∧ t.ptr = s.ptr ∧ t.fr = s.fr ∧ t.win = s.win ∧
      samePosition s t ∧ sameEvent s t ∧ sameReport s t ∧ sameWorld s t ∧
      (s.len = 0 → t.phase = .drain ∧ t.dk = 0 ∧ t.errCode = s.errCode) ∧
      (s.len ≠ 0 → s.ibuf.read 0 ≠ s.cfg.flagByte → t.phase = .error ∧ t.errCode = 1 ∧ t.dk = s.dk) ∧
      (s.len ≠ 0 → s.ibuf.read 0 = s.cfg.flagByte → s.ibuf.read (s.len - 1) ≠ s.cfg.flagByte →
        t.phase = .error ∧ t.errCode = 2 ∧ t.dk = s.dk) ∧
      (s.len ≠ 0 → s.ibuf.read 0 = s.cfg.flagByte → s.ibuf.read (s.len - 1) = s.cfg.flagByte →
        t.phase = .scan ∧ t.errCode = s.errCode ∧ t.dk = s.dk)

/-- R183: one step of DRAIN releases and empties the slot at cur + dk; the cursor stays; dk moves on below 2 and the
step with dk = 2 enters DONE; nothing else changes. -/
def Obligations.DrainStepReleasesOneSlot : Prop :=
  ∀ s : State, s.phase = .drain →
    ∃ t, exec .noStrobe s = .next t ∧ releasedSlot (s.win.slot (s.win.cur + s.dk)) s t ∧
      t.win.cur = s.win.cur ∧
      (∀ i, t.win.slot i = if i = s.win.cur + s.dk then none else s.win.slot i) ∧
      (s.dk = 2 → t.phase = .done ∧ t.dk = 2) ∧
      (s.dk ≠ 2 → t.phase = .drain ∧ t.dk.val = s.dk.val + 1) ∧
      t.len = s.len ∧ t.ptr = s.ptr ∧ t.errCode = s.errCode ∧ t.fr = s.fr ∧ sameReport s t ∧ sameWorld s t

/-- R226 with R183: DRAIN takes exactly three steps, with dk = 0, 1 and 2, of a host that in these three steps neither
resets nor writes IBUF, whatever it does after them; they apply the three slots oldest first (R180), raise nothing, and leave the window empty in DONE. -/
def Obligations.DrainTakesThreeSteps : Prop :=
  ∀ s : State, s.phase = .drain → s.dk = 0 → (∀ h ∈ s.inputs.take 3, h.rst = false ∧ h.writes = []) →
    ∃ t1 t2 t3, core.run 1 s = .next t1 ∧ core.run 2 s = .next t2 ∧ core.run 3 s = .next t3 ∧
      t1.phase = .drain ∧ t1.dk = 1 ∧ t2.phase = .drain ∧ t2.dk = 2 ∧ t3.phase = .done ∧ t3.errCode = s.errCode ∧
      (t3.x, t3.y) = movedAll (s.x, s.y)
        ((s.win.slot s.win.cur).toList ++ (s.win.slot (s.win.cur + 1)).toList ++
          (s.win.slot (s.win.cur + 2)).toList) ∧
      (∀ i, t3.win.slot i = none) ∧ t3.win.cur = s.win.cur

/-! ## The step runs the decoded form -/

/-- R84, R221, R153: a step whose host writes are accepted runs the form its strobes decode to, on the state with the
outputs written to 0; in SCAN, without RESET, it runs the form that the raw byte at ptr decodes to, and always answers a
next state. -/
def Obligations.StepRunsTheDecodedForm : Prop :=
  ∀ (s u : State) (i : Instr), hostWrites s.input s.dropInput = .next u →
    (decode s.cfg (.strobe (lenPort s.cfg s.input.len))
        [if s.input.rst then (if s.input.start then 0x03 else 0x02) else (if s.input.start then 0x01 else 0x00)]
        = .ok (i, []) →
      step s = exec i (defaultOutputs u)) ∧
    (s.phase = .scan → s.ptr < s.len → s.input.rst = false →
      decode s.cfg (.raw s.fr.esc (s.fr.rc != 0)) [s.ibuf.read s.ptr] = .ok (i, []) →
      step s = exec i (defaultOutputs u) ∧ exec .noStrobe s = exec i s ∧ ∃ t, exec .noStrobe s = .next t)

/-- R155, R181, R183 (log 12): the SCAN step that closes a frame which passes its checks runs the form of its control
byte, then, unless that raised, clears the frame and moves on; a Data frame with an illegal command field runs the
INVALID_COMMAND form; a DRAIN step runs the form of the command it releases. -/
def Obligations.NestedFormsRunInsideTheStep : Prop :=
  ∀ s : State,
    (s.phase = .scan → 4 ≤ s.fr.rc.toNat → s.fr.crc = s.cfg.crcGood →
      ∀ i, decode s.cfg .control [s.fr.ctrl] = .ok (i, []) →
        ∃ u, exec i s = .next u ∧
          exec .flagClose s = .next (if u.phase = .error then u else advance (frameReset u))) ∧
    (∀ ign seq i, decode s.cfg .command s.fr.commandField.toList = .ok (i, []) → (∀ k : Command, i ≠ k.toInstr) →
        exec (.iFrame ign seq) s = exec i (report .data seq s)) ∧
    (s.phase = .drain → ∀ k, s.win.slot (s.win.cur + s.dk) = some k →
        ∃ u t, exec k.toInstr s = .next u ∧ exec .noStrobe s = .next t ∧ t.x = u.x ∧ t.y = u.y ∧ t.out = u.out)

/-- R72, R153 (log 13): with no strobe, the two SCAN steps that read an escape pair do what the ESC_PAIR form does. -/
def Obligations.EscapePairIsTwoScanSteps : Prop :=
  ∀ (s : State) (b : Byte), s.phase = .scan → s.inputs = [] → s.ptr + 1 < s.len → s.fr.esc = false →
    s.ibuf.read s.ptr = s.cfg.escByte → s.ibuf.read (s.ptr + 1) = b → s.cfg.escByte ≠ s.cfg.flagByte →
    b ≠ s.cfg.flagByte → core.run 2 s = exec (.escPair b) s.begun

/-! ## Raw-byte forms -/

/-- R121, R124, R125: LIT counts and places its byte; `esc` and everything outside the frame registers and the cursor
stay. -/
def Obligations.LiteralByteIsPlaced : Prop :=
  ∀ (b : Byte) (s : State),
    ∃ t, exec (.lit b) s = .next t ∧ placedByte s.cfg b s.fr t.fr ∧ t.fr.esc = s.fr.esc ∧ cursorAdvanced s t ∧
      t.win = s.win ∧ samePosition s t ∧ sameEvent s t ∧ sameReport s t ∧ sameWorld s t

/-- R122: ESC counts as raw interior, sets `esc` and produces no destuffed byte. -/
def Obligations.EscapeMarkerSetsPending : Prop :=
  ∀ s : State,
    ∃ t, exec .esc s = .next t ∧ t.fr.rc.toNat = min (s.fr.rc.toNat + 1) 7 ∧ t.fr.esc = true ∧
      t.fr.n = s.fr.n ∧ t.fr.crc = s.fr.crc ∧ t.fr.addr = s.fr.addr ∧ t.fr.ctrl = s.fr.ctrl ∧
      t.fr.cmdb = s.fr.cmdb ∧ cursorAdvanced s t ∧
      t.win = s.win ∧ samePosition s t ∧ sameEvent s t ∧ sameReport s t ∧ sameWorld s t

/-- R123: ESCAPED clears `esc`, counts one raw byte and places the byte XOR ESC_XOR, for every byte. -/
def Obligations.EscapedByteIsDestuffed : Prop :=
  ∀ (b : Byte) (s : State),
    ∃ t, exec (.escaped b) s = .next t ∧ placedByte s.cfg (b ^^^ s.cfg.escXor) s.fr t.fr ∧ t.fr.esc = false ∧
      cursorAdvanced s t ∧ t.win = s.win ∧ samePosition s t ∧ sameEvent s t ∧ sameReport s t ∧ sameWorld s t

/-- R72: ESC_PAIR, read inside the buffer (ptr + 1 < LEN), places the one destuffed byte, counts two raw bytes, moves
the cursor by two and leaves no escape pending. -/
def Obligations.EscapePairPlacesOneByte : Prop :=
  ∀ (b : Byte) (s : State), s.ptr + 1 < s.len →
    ∃ t, exec (.escPair b) s = .next t ∧ t.fr.rc.toNat = min (s.fr.rc.toNat + 2) 7 ∧
      t.fr.n.toNat = min (s.fr.n.toNat + 1) 7 ∧ t.fr.crc = crcUpdate s.cfg s.fr.crc (b ^^^ s.cfg.escXor) ∧
      t.fr.addr = (if s.fr.n = 0 then b ^^^ s.cfg.escXor else s.fr.addr) ∧
      t.fr.ctrl = (if s.fr.n = 1 then b ^^^ s.cfg.escXor else s.fr.ctrl) ∧
      t.fr.cmdb = (if s.fr.n = 2 then b ^^^ s.cfg.escXor else s.fr.cmdb) ∧
      t.fr.esc = false ∧ t.ptr = s.ptr + 2 ∧ t.len = s.len ∧ t.errCode = s.errCode ∧
      (s.ptr + 2 = s.len → t.phase = .drain ∧ t.dk = 0) ∧
      (s.ptr + 2 ≠ s.len → t.phase = s.phase ∧ t.dk = s.dk) ∧
      t.win = s.win ∧ samePosition s t ∧ sameEvent s t ∧ sameReport s t ∧ sameWorld s t

/-- R154: a flag at an empty boundary clears the frame registers (R120), which changes none of them in a legal state with
rc = 0, moves the cursor on, and does nothing else. -/
def Obligations.FlagAtBoundaryClearsTheFrame : Prop :=
  ∀ s : State,
    ∃ t, exec .flagBoundary s = .next t ∧ frameCleared s.cfg t.fr ∧ cursorAdvanced s t ∧
      (LegalState s → s.fr.rc = 0 → t.fr = s.fr) ∧
      t.win = s.win ∧ samePosition s t ∧ sameEvent s t ∧ sameReport s t ∧ sameWorld s t

/-- R128, R129, R158, R160, R252, R254: the errors of a closing flag, in their order, each with what it leaves
untouched: TooShort below 4 raw bytes whatever the content, else ChecksumInvalid on a wrong residue, else InvalidCommand
on a Data frame whose command is missing (n <= 4) or not a command byte, which alone keeps the frame report. -/
def Obligations.FlagCloseErrors : Prop :=
  ∀ s : State,
    (s.fr.rc.toNat < 4 →
      ∃ t, exec .flagClose s = .next t ∧ enteredError 4 s t ∧ t.fr = s.fr ∧ t.win = s.win ∧ samePosition s t ∧
        sameEvent s t ∧ sameReport s t ∧ sameWorld s t) ∧
    (4 ≤ s.fr.rc.toNat → s.fr.crc ≠ s.cfg.crcGood →
      ∃ t, exec .flagClose s = .next t ∧ enteredError 5 s t ∧ t.fr = s.fr ∧ t.win = s.win ∧ samePosition s t ∧
        sameEvent s t ∧ sameReport s t ∧ sameWorld s t) ∧
    (4 ≤ s.fr.rc.toNat → s.fr.crc = s.cfg.crcGood → s.fr.ctrl.getLsbD 0 = false →
      (s.fr.n.toNat ≤ 4 ∨ ∀ k, s.fr.cmdb ≠ s.cfg.commandByte k) →
      ∃ t, exec .flagClose s = .next t ∧ enteredError 6 s t ∧ t.fr = s.fr ∧ t.win = s.win ∧ samePosition s t ∧
        sameEvent s t ∧ reportsFrame 0 (s.fr.ctrl.extractLsb' 5 3) s t ∧ sameWorld s t)

/-- R155, R127, R130, R157, R159: a closing flag of a frame that passes its checks reports the frame; a Data frame's
command is pushed (R181), a supervisory frame touches neither window nor position; the frame registers are cleared and
the cursor moves on. -/
def Obligations.FlagCloseDelivers : Prop :=
  ∀ s : State, 4 ≤ s.fr.rc.toNat → s.fr.crc = s.cfg.crcGood → s.cfg.wf = true →
    (∀ k, s.fr.ctrl.getLsbD 0 = false → 5 ≤ s.fr.n.toNat → s.fr.cmdb = s.cfg.commandByte k →
      ∃ t, exec .flagClose s = .next t ∧ pushedCommand k s t ∧ reportsFrame 0 (s.fr.ctrl.extractLsb' 5 3) s t ∧
        frameCleared s.cfg t.fr ∧ cursorAdvanced s t ∧ sameWorld s t) ∧
    (s.fr.ctrl.getLsbD 0 = true →
      ∃ t, exec .flagClose s = .next t ∧
        reportsFrame (if s.fr.ctrl.getLsbD 3 = false then 1 else 2) (s.fr.ctrl.extractLsb' 5 3) s t ∧
        frameCleared s.cfg t.fr ∧ cursorAdvanced s t ∧ t.win = s.win ∧ samePosition s t ∧ sameEvent s t ∧
        sameWorld s t)

/-! ## Control-byte forms -/

/-- R131, R136, R157, R158, R181 (log 12): the I form reports a Data frame; with n >= 5 and a command byte it pushes the
command, otherwise it raises InvalidCommand and leaves window and position. -/
def Obligations.DataFrameFormPushesOrRaises : Prop :=
  ∀ (ign : BitVec 4) (seq : BitVec 3) (s : State), s.cfg.wf = true →
    (∀ k, 5 ≤ s.fr.n.toNat → s.fr.cmdb = s.cfg.commandByte k →
      ∃ t, exec (.iFrame ign seq) s = .next t ∧ pushedCommand k s t ∧ reportsFrame 0 seq s t ∧ t.fr = s.fr ∧
        sameSequencer s t ∧ sameWorld s t) ∧
    (s.fr.n.toNat ≤ 4 ∨ (∀ k, s.fr.cmdb ≠ s.cfg.commandByte k) →
      ∃ t, exec (.iFrame ign seq) s = .next t ∧ enteredError 6 s t ∧ reportsFrame 0 seq s t ∧ t.fr = s.fr ∧
        t.win = s.win ∧ samePosition s t ∧ sameEvent s t ∧ sameWorld s t)

/-- R132, R133, R134, R135: RR and RNR are Acknowledge (code 1), REJ and SREJ are NegativeAcknowledge (code 2); each
writes the frame report and nothing else, whatever the payload and the ignored bits, and R130's classifier gives the
same type for the control byte of the form. -/
def Obligations.SupervisoryFormsOnlyReport : Prop :=
  ∀ (ign : BitVec 2) (seq : BitVec 3) (s : State) (i : Instr) (ty : FrameType),
    (i, ty) ∈ [(Instr.rr ign seq, FrameType.acknowledge), (Instr.rnr ign seq, FrameType.acknowledge),
        (Instr.rej ign seq, FrameType.negativeAcknowledge), (Instr.srej ign seq, FrameType.negativeAcknowledge)] →
      (∃ t, exec i s = .next t ∧ reportsFrame (frameTypeCode ty) seq s t ∧ t.fr = s.fr ∧ t.win = s.win ∧
        samePosition s t ∧ sameEvent s t ∧ sameSequencer s t ∧ sameWorld s t) ∧
      (encode s.cfg i).map classifyType = [ty] ∧
      frameTypeCode .acknowledge = 1 ∧ frameTypeCode .negativeAcknowledge = 2

/-! ## Command-byte forms -/

/-- R200, R201, R202, R203, R204, R205: each command moves its axis by one, clamped to 0..4 and total on the unreachable
coordinates 5..7, keeps the other axis, records its event, and changes nothing else. -/
def Obligations.CommandsMoveOneAxis : Prop :=
  ∀ s : State,
    (∃ t, exec .up s = .next t ∧ t.x = s.x ∧ t.y.toNat = min (s.y.toNat - 1) 4 ∧ appliedCommand .up s t ∧
      t.fr = s.fr ∧ t.win = s.win ∧ sameReport s t ∧ sameSequencer s t ∧ sameWorld s t) ∧
    (∃ t, exec .down s = .next t ∧ t.x = s.x ∧ t.y.toNat = min (s.y.toNat + 1) 4 ∧ appliedCommand .down s t ∧
      t.fr = s.fr ∧ t.win = s.win ∧ sameReport s t ∧ sameSequencer s t ∧ sameWorld s t) ∧
    (∃ t, exec .right s = .next t ∧ t.y = s.y ∧ t.x.toNat = min (s.x.toNat + 1) 4 ∧ appliedCommand .right s t ∧
      t.fr = s.fr ∧ t.win = s.win ∧ sameReport s t ∧ sameSequencer s t ∧ sameWorld s t) ∧
    (∃ t, exec .left s = .next t ∧ t.y = s.y ∧ t.x.toNat = min (s.x.toNat - 1) 4 ∧ appliedCommand .left s t ∧
      t.fr = s.fr ∧ t.win = s.win ∧ sameReport s t ∧ sameSequencer s t ∧ sameWorld s t)

/-- R158, R252: INVALID_COMMAND, for any illegal byte and for no byte, writes err_code 6 and phase ERROR and nothing
else. -/
def Obligations.InvalidCommandRaises : Prop :=
  ∀ (field : Option Byte) (s : State),
    ∃ t, exec (.invalidCommand field) s = .next t ∧ enteredError 6 s t ∧ t.fr = s.fr ∧ t.win = s.win ∧
      samePosition s t ∧ sameEvent s t ∧ sameReport s t ∧ sameWorld s t

/-! ## Rules over all steps and forms -/

/-- R51, R21: no form writes IBUF, the parameters or the inputs to come. -/
def Obligations.NoFormWritesIbuf : Prop :=
  ∀ (i : Instr) (s t : State), exec i s = .next t → sameWorld s t

/-- R53: IBUF changes in a step only by the host's own writes; no step answers a next state to a host write while
busy, so IBUF does not change then. -/
def Obligations.OnlyTheHostWritesIbuf : Prop :=
  ∀ s t : State, step s = .next t →
    t.ibuf = s.ibuf.writeAll s.input.writes ∧
      (s.busy = true → s.input.writes = [] ∧ ∀ a, t.ibuf.read a = s.ibuf.read a) ∧
      t.cfg = s.cfg ∧ t.inputs = s.inputs.tail

/-- R60: an address of IBUF reads as the byte the host last wrote there, and as before where it wrote nothing. -/
def Obligations.ReadsGiveTheLastHostWrite : Prop :=
  ∀ s t : State, step s = .next t → s.ibuf.wf →
    t.ibuf.wf ∧
    (∀ ws a b ws', s.input.writes = ws ++ (a, b) :: ws' → (∀ w ∈ ws', w.1 ≠ a) → t.ibuf.read a = b) ∧
    (∀ a, (∀ w ∈ s.input.writes, w.1 ≠ a) → t.ibuf.read a = s.ibuf.read a)

/-- R252, R259: a step that enters ERROR from a busy phase wrote err_code and the phase only: cursor, LEN, dk, frame
registers, window and position are kept, no event is recorded, and a frame report stands only with InvalidCommand; it
was raised in CHECK or SCAN. -/
def Obligations.ErrorEntryWritesOnlyTheError : Prop :=
  ∀ s t : State, s.busy = true → s.input.rst = false → step s = .next t → t.phase = .error →
    (s.phase = .check ∨ s.phase = .scan) ∧ t.errCode ≠ 0 ∧
    t.ptr = s.ptr ∧ t.len = s.len ∧ t.dk = s.dk ∧ t.fr = s.fr ∧ t.win = s.win ∧ samePosition s t ∧
    t.out.evValid = false ∧ t.out.evCmd = 0 ∧ t.out.evChanged = false ∧
    (t.errCode = 6 → t.out.frmValid = true) ∧
    (t.errCode ≠ 6 → t.out.frmValid = false ∧ t.out.frmType = 0 ∧ t.out.frmSeq = 0 ∧ t.out.frmAddr = 0x00)

/-- R256, R250: no step writes the code of NoMessage or the reserved code 7. -/
def Obligations.NoMessageIsNeverRaised : Prop :=
  ∀ s t : State, step s = .next t → t.errCode ≠ s.errCode →
    t.errCode = 0 ∨ t.errCode = 1 ∨ t.errCode = 2 ∨ t.errCode = 4 ∨ t.errCode = 5 ∨ t.errCode = 6

/-- R36, with R205 and R229: after every step, either the step released a command, which was applied to the position,
with ev_valid 1, its byte in ev_cmd, and ev_changed 1 exactly if the position differs; or the step released none, all
three are 0 and, unless it was a RESET or an accepted START, the position is as before. -/
def Obligations.EventsRecordEveryAppliedCommand : Prop :=
  ∀ s t : State, step s = .next t →
    (∃ k, releasesCommand k s ∧ appliedCommand k s t) ∨
    ((∀ k, ¬releasesCommand k s) ∧ t.out.evValid = false ∧ t.out.evCmd = 0 ∧ t.out.evChanged = false ∧
      (s.input.rst = false → (s.input.start = true → s.busy = true) → samePosition s t))

/-- R37, R127, R229: after every step, frm_valid is 1 only if the step was in SCAN, without RESET, read a flag that
closed a frame with at least 4 raw bytes and the good residue, and then the three other registers are that frame's;
otherwise all four are 0. -/
def Obligations.FrameReportsDescribeTheClosedFrame : Prop :=
  ∀ s t : State, step s = .next t →
    (s.phase = .scan ∧ s.input.rst = false ∧ s.ibuf.read s.ptr = s.cfg.flagByte ∧ 4 ≤ s.fr.rc.toNat ∧
        s.fr.crc = s.cfg.crcGood ∧
        reportsFrame (frameTypeCode (classifyType s.fr.ctrl)) (s.fr.ctrl.extractLsb' 5 3) s t) ∨
    (¬(s.phase = .scan ∧ s.input.rst = false ∧ s.ibuf.read s.ptr = s.cfg.flagByte ∧ 4 ≤ s.fr.rc.toNat ∧
        s.fr.crc = s.cfg.crcGood) ∧
      t.out.frmValid = false ∧ t.out.frmType = 0 ∧ t.out.frmSeq = 0 ∧ t.out.frmAddr = 0x00)

/-- R223, R224, R225, R226: without RESET a busy phase goes only where the rules say, LEN is kept, the cursor never goes
back, and no restart happens. -/
def Obligations.BusyPhasesFollowTheSequence : Prop :=
  ∀ s t : State, s.busy = true → s.input.rst = false → step s = .next t →
    t.len = s.len ∧ s.ptr ≤ t.ptr ∧
    (s.phase = .check → t.ptr = s.ptr ∧ (t.phase = .drain ∨ t.phase = .error ∨ t.phase = .scan)) ∧
    (s.phase = .scan → t.phase = .scan ∨ t.phase = .drain ∨ t.phase = .error) ∧
    (s.phase = .drain → t.ptr = s.ptr ∧ ((s.dk = 2 → t.phase = .done) ∧ (s.dk ≠ 2 → t.phase = .drain)))

/-- R225, with R24, R57 and R163: a SCAN step reads one address: it moves the cursor on by exactly one, or raises an
error and leaves it; SCAN lasts until the step that reads address LEN - 1, which enters DRAIN, or raises an error. -/
def Obligations.ScanReadsEachAddressOnce : Prop :=
  ∀ s t : State, s.phase = .scan → s.input.rst = false → step s = .next t →
    (t.phase = .error ∧ t.ptr = s.ptr) ∨
    (t.ptr = s.ptr + 1 ∧ t.phase = if s.ptr + 1 = s.len then .drain else .scan)

/-- R38, R39, R52: the status flags are functions of the phase, at most one is 1 and all are 0 in IDLE; the position
ports show x and y and `ibuf_raddr` shows ptr. -/
def Obligations.StatusPortsFollowThePhase : Prop :=
  ∀ s : State,
    (s.ports.busy = true ↔ s.phase = .check ∨ s.phase = .scan ∨ s.phase = .drain) ∧
    (s.ports.done = true ↔ s.phase = .done) ∧ (s.ports.err = true ↔ s.phase = .error) ∧
    ¬(s.ports.busy = true ∧ s.ports.done = true) ∧ ¬(s.ports.busy = true ∧ s.ports.err = true) ∧
    ¬(s.ports.done = true ∧ s.ports.err = true) ∧
    s.ports.posX = s.x ∧ s.ports.posY = s.y ∧ s.ports.errCode = s.errCode ∧ s.ports.ibufRaddr = s.ptr

/-! ## Encodings -/

/-- R71: the four classes of a raw byte are those of their conditions, FLAG split by rc (R86). -/
def Obligations.RawByteClassesFollowTheirConditions : Prop :=
  ∀ (c : Config) (e o : Bool) (b : Byte), c.flagByte ≠ c.escByte →
    (rawClass c e o b = .flagBoundary ↔ b = c.flagByte ∧ o = false) ∧
    (rawClass c e o b = .flagClose ↔ b = c.flagByte ∧ o = true) ∧
    (rawClass c e o b = .esc ↔ b = c.escByte ∧ e = false) ∧
    (∀ x, rawClass c e o b = .escaped x ↔ x = b ∧ b ≠ c.flagByte ∧ e = true) ∧
    (∀ x, rawClass c e o b = .lit x ↔ x = b ∧ b ≠ c.flagByte ∧ b ≠ c.escByte ∧ e = false)

/-- R71, R72, R76, R82, R83, R84: words written out from the spec's tables decode to their forms. -/
def Obligations.WordsOfTheSpecDecode : Prop :=
  decode Config.std (.raw false false) [0x7E#8] = .ok (.flagBoundary, []) ∧
  decode Config.std (.raw true true) [0x7E#8] = .ok (.flagClose, []) ∧
  decode Config.std .pair [0x7D#8, 0x5E#8] = .ok (.escPair 0x5E, []) ∧
  decode Config.std .control [0xA5#8] = .ok (.rnr 0 5, []) ∧
  decode Config.std .command [0x03#8] = .ok (.right, []) ∧
  decode Config.std (.strobe 28) [0b01#8] = .ok (.start 28, [])

/-- R71, R72, R76, R82, R83, R84: decoding the encoding of a well-formed form, in every layer and context it belongs to
and whatever bytes follow, gives the form back with every operand, and leaves the bytes that follow. The form with no
bytes at all (INVALID_COMMAND without a payload byte) is read from the empty field. -/
def Obligations.DecodeOfEncodeIsTheForm : Prop :=
  ∀ (c : Config) (i : Instr) (l : Layer), c.wf = true → i.wf c = true → i.inLayer l = true →
    decode c l (encode c i) = .ok (i, []) ∧
    (encode c i ≠ [] → ∀ rest, decode c l (encode c i ++ rest) = .ok (i, rest))

/-- The other direction: whatever a decoder accepts is a well-formed form of its layer, and encoding it gives back the
bytes read, so no bit is dropped. -/
def Obligations.EncodeOfDecodeIsTheBytes : Prop :=
  ∀ (c : Config) (l : Layer) (bytes rest : List Byte) (i : Instr), c.wf = true →
    (∀ len, l = .strobe len → len < 2 ^ c.lenW) → decode c l bytes = .ok (i, rest) →
    i.inLayer l = true ∧ i.wf c = true ∧ encode c i ++ rest = bytes

/-! ## Checksum -/

/-- R105: the table form of CRC_UPDATE equals the bitwise form, for every polynomial, value and byte. -/
def Obligations.CrcTableFormIsBitwiseForm : Prop :=
  ∀ (poly v : Word16) (b : Byte), crcStep poly v b = crcBitwise poly v b

/-- R104, R103: for every byte sequence the FCS of R104 makes the residue check pass, whenever CRC_GOOD is the residue
of the polynomial, as at the defaults. -/
def Obligations.FcsGivesTheGoodResidue : Prop :=
  ∀ cfg : Config, (crcConsistent cfg = true →
    ∀ body, crcOk cfg (crcFold cfg cfg.crcSeed (body ++ fcsBytes cfg body)) = true) ∧
  crcConsistent Config.std = true

/-- R107: at the default polynomial, changing one destuffed byte of a frame, in one bit or more, changes the residue. -/
def Obligations.ChangedByteChangesTheResidue : Prop :=
  ∀ (cfg : Config) (before after : List Byte) (b b' : Byte), cfg.crcPolyR = 0x8408#16 → b ≠ b' →
    crcFold cfg cfg.crcSeed (before ++ b :: after) ≠ crcFold cfg cfg.crcSeed (before ++ b' :: after)

/-! ## Slices, stuffing and whole frames -/

/-- R139: reading a raw interior byte by byte leaves in the registers exactly what the slice form says, and closing the
frame is then the slice form's outcome. -/
def Obligations.ByteSerialFrameIsTheSliceForm : Prop :=
  ∀ (cfg : Config) (r : List Byte), r ≠ [] → (∀ b ∈ r, b ≠ cfg.flagByte) →
    let f := (Frame.fresh cfg).feedAll cfg r
    let d := destuff cfg r
    f.rc = satCount r.length ∧ f.n = satCount d.length ∧ f.crc = crcFold cfg cfg.crcSeed d ∧
      f.addr = d.getD 0 0x00 ∧ f.ctrl = d.getD 1 0x00 ∧ f.cmdb = d.getD 2 0x00 ∧ f.esc = danglingEscape cfg r ∧
      ∀ s : State, s.cfg = cfg → s.fr = f →
        let reported := report (classifyType f.ctrl) (f.ctrl.extractLsb' 5 3) s
        closeFrame s =
          match closeSlice cfg r with
          | .error e => .raised (raiseError e s)
          | .skip => .goes reported
          | .data field =>
            match commandClass cfg field with
            | .valid k => .goes (push k reported)
            | .invalid _ => .raised (raiseError .invalidCommand reported)

/-- R74: stuffing leaves no flag byte and no dangling escape, and destuffing undoes it. -/
def Obligations.DestuffingUndoesStuffing : Prop :=
  ∀ (cfg : Config) (bs : List Byte), cfg.wf = true →
    destuff cfg (stuff cfg bs) = bs ∧ (∀ b ∈ stuff cfg bs, b ≠ cfg.flagByte) ∧
      danglingEscape cfg (stuff cfg bs) = false

/-- R88, R104, R131, R136, R157: the SCAN step that reads the closing flag of a frame a producer made with any address,
any I control byte, a command byte and any further payload pushes that command, reports the frame, and raises nothing. -/
def Obligations.ProducedDataFrameIsDelivered : Prop :=
  ∀ (s : State) (a ctrl : Byte) (k : Command) (more : List Byte), s.cfg.wf = true → crcConsistent s.cfg = true →
    ctrl.getLsbD 0 = false →
    s.fr = (Frame.fresh s.cfg).feedAll s.cfg (interior s.cfg (a :: ctrl :: s.cfg.commandByte k :: more)) →
    ∃ t, exec .flagClose s = .next t ∧ pushedCommand k s t ∧ t.errCode = s.errCode ∧
      t.out.frmValid = true ∧ t.out.frmType = 0 ∧ t.out.frmSeq = ctrl.extractLsb' 5 3 ∧ t.out.frmAddr = a ∧
      frameCleared s.cfg t.fr

/-- R159, R257: a supervisory frame a producer made, with any payload, is never an error and reaches neither window nor
position. -/
def Obligations.ProducedSupervisoryFrameIsSkipped : Prop :=
  ∀ (s : State) (a ctrl : Byte) (more : List Byte), s.cfg.wf = true → crcConsistent s.cfg = true →
    ctrl.getLsbD 0 = true →
    s.fr = (Frame.fresh s.cfg).feedAll s.cfg (interior s.cfg (a :: ctrl :: more)) →
    ∃ t, exec .flagClose s = .next t ∧ t.win = s.win ∧ samePosition s t ∧ t.errCode = s.errCode ∧
      t.out.frmValid = true ∧ t.out.frmType ≠ 0 ∧ t.out.frmSeq = ctrl.extractLsb' 5 3 ∧ t.out.frmAddr = a ∧
      sameEvent s t

/-! ## Debouncer -/

/-- R188: the cursor form and the shift-register form emit the same commands in the same pushes and keep corresponding,
and the drain order of R183 is q2, q1, q0. -/
def Obligations.CursorFormIsShiftForm : Prop :=
  ∀ (w : Window) (k : Command),
    w.oldest = w.toShift.q2 ∧ (w.insert k).toShift = w.toShift.push k ∧
      w.drained = (w.slot w.cur).toList ++ (w.slot (w.cur + 1)).toList ++ (w.slot (w.cur + 2)).toList

/-- R187: in a run of pushes of one command the window is empty exactly after every third push, whatever preceded the
run; from an empty window, a run of `n` applies `n % 3` of them. -/
def Obligations.RunsSuppressEveryThird : Prop :=
  (∀ (w : Window) (k : Command), w.toShift.q0 ≠ some k → ∀ m : Nat, 0 < m →
    ((w.insertAll (List.replicate m k)).toShift = Shift.empty ↔ m % 3 = 0)) ∧
  (∀ (k : Command) (m : Nat),
    Window.empty.emitted (List.replicate m k) ++ (Window.empty.insertAll (List.replicate m k)).drained
      = List.replicate (m % 3) k)

/-- R185: the commands a run applies are the pushed commands less triples of equal consecutive ones, in push order: the
pushes fall into consecutive blocks, each one kept command or three equal suppressed ones. -/
def Obligations.AppliedCommandsAreThePushesLessTriples : Prop :=
  ∀ ks : List Command, ∃ blocks : List (List Command),
    (∀ b ∈ blocks, ∃ k, b = [k] ∨ b = [k, k, k]) ∧ ks = blocks.flatten ∧
      Window.empty.emitted ks ++ (Window.empty.insertAll ks).drained
        = (blocks.filter (fun b => b.length == 1)).flatten

/-- R186: a command that no triple clears is the oldest entry after the third push counting its own, so the next push
emits it. -/
def Obligations.CommandWaitsThreePushes : Prop :=
  ∀ (w : Window) (a b c : Command),
    (w.insert a).toShift.q0 = some a → ((w.insert a).insert b).toShift.q0 = some b →
    (((w.insert a).insert b).insert c).toShift.q0 = some c →
    (((w.insert a).insert b).insert c).oldest = some a

/-! ## Invariants and whole runs -/

/-- R281, R40: the state after RESET, with any legal parameters, IBUF content and inputs to come, meets the invariants,
and its memory is canonical when the IBUF content is. -/
def Obligations.ResetStateMeetsTheInvariants : Prop :=
  ∀ (c : Config) (m : Memory) (ins : List HostIn), c.wf = true → m.wf →
    Inv (State.resetWith c m ins) ∧ RunInv (State.resetWith c m ins) ∧ (State.resetWith c m ins).ibuf.wf

/-- R40: every step keeps the invariants of R40, from every state that meets them, whatever the host does. -/
def Obligations.StepKeepsTheInvariants : Prop :=
  ∀ s t : State, Inv s → step s = .next t → Inv t

/-- R40: every state reachable from reset, with any legal parameters, IBUF content and host, meets all nine items. -/
def Obligations.ReachableStatesAreLegal : Prop :=
  ∀ (c : Config) (m : Memory) (ins : List HostIn) (k : Nat) (t : State), c.wf = true →
    core.run k (State.resetWith c m ins) = .next t → LegalState t

/-- R24, R150, R161, R183: every step keeps what holds along a run: flags at both ends in SCAN, no open frame in DRAIN
and DONE, drained slots empty, the cursor within LEN. -/
def Obligations.StepKeepsTheRunInvariant : Prop :=
  ∀ s t : State, RunInv s → step s = .next t → RunInv t

/-- R52, R59, R287: a host that keeps its duties is never stopped: from every state that meets the invariants the step
answers a next state. Of the duties, those against a write in an accepted START step (log 7) and a write outside IBUF
(log 9) are the model's reading. -/
def Obligations.DutifulHostIsNeverStopped : Prop :=
  ∀ s : State, Inv s → dutiesKept s → ∃ t, step s = .next t

/-- R231, R225: a run always ends: from any busy state that meets the invariants, a host that neither resets nor writes
sees DONE or ERROR within LEN + 4 steps, whatever it does with `start` and `len`. -/
def Obligations.EveryRunEnds : Prop :=
  ∀ s : State, Inv s → s.busy = true → (∀ h ∈ s.inputs, h.rst = false ∧ h.writes = []) →
    ∃ k t, k ≤ s.len + 4 ∧ core.run k s = .next t ∧ (t.phase = .done ∨ t.phase = .error)

/-- R139, R162, R184, R188, R231, R253: a whole run equals the slice form. From IDLE, DONE or ERROR, START with `len`
and then LEN + 4 steps of a quiet host end in DONE or ERROR with the error and the position that the slice form gives for
the bytes of IBUF. -/
def Obligations.RunIsTheSliceForm : Prop :=
  ∀ (s : State) (len : Nat), s.busy = false →
    s.inputs = [{ start := true, len := len }] → len < 2 ^ s.cfg.lenW → len ≤ s.cfg.ibufDepth →
    ∃ t, core.run (len + 5) s = .next t ∧
      (t.x, t.y) = (runSlice s.cfg (s.ibuf.bytes len)).2 ∧
      match (runSlice s.cfg (s.ibuf.bytes len)).1 with
      | none => t.phase = .done ∧ t.errCode = 0
      | some e => t.phase = .error ∧ t.errCode = e.code
end

