-- ==== Sys2Proof/Laws/Memory.lean ====
section
/-! SUPPORT. The laws of IBUF: every memory operation keeps the canonical form, and a read after a write. -/

namespace Sys2Proof.Machine

theorem Memory.wf_nil : Memory.wf [] := ⟨List.Pairwise.nil, fun _ h => absurd h (List.not_mem_nil)⟩

theorem Memory.wf_tail {p : Host.Cell} {m : Memory} (h : Memory.wf (p :: m)) : m.wf :=
  ⟨(List.pairwise_cons.mp h.1).2, fun q hq => h.2 q (List.mem_cons_of_mem _ hq)⟩

/-- An address below every listed one reads as an unlisted address. -/
theorem Memory.read_below (m : Memory) (a : Nat) (h : ∀ q ∈ m, a < q.1) : m.read a = unlisted := by
  induction m with
  | nil => rfl
  | cons p t ih =>
    have hp := h p List.mem_cons_self
    simp only [Memory.read, if_neg (Nat.ne_of_lt hp)]
    exact ih (fun q hq => h q (List.mem_cons_of_mem _ hq))

/-- What a write lists: the address written, or an address listed before. -/
theorem Memory.mem_write {m : Memory} {a : Nat} {b : Byte} {q : Host.Cell} (h : q ∈ m.write a b) :
    q = (a, b) ∧ b ≠ unlisted ∨ q ∈ m := by
  induction m with
  | nil =>
    simp only [Memory.write] at h
    split at h
    · exact absurd h List.not_mem_nil
    · exact .inl ⟨List.mem_singleton.mp h, ‹_›⟩
  | cons p t ih =>
    obtain ⟨k, v⟩ := p
    simp only [Memory.write] at h
    split at h
    · split at h
      · exact .inr h
      · rcases List.mem_cons.mp h with h | h
        · exact .inl ⟨h, ‹_›⟩
        · exact .inr h
    · split at h
      · split at h
        · exact .inr (List.mem_cons_of_mem _ h)
        · rcases List.mem_cons.mp h with h | h
          · exact .inl ⟨h, ‹_›⟩
          · exact .inr (List.mem_cons_of_mem _ h)
      · rcases List.mem_cons.mp h with h | h
        · exact .inr (h ▸ List.mem_cons_self)
        · rcases ih h with h | h
          · exact .inl h
          · exact .inr (List.mem_cons_of_mem _ h)

/-- A write keeps the canonical form. -/
theorem Memory.wf_write {m : Memory} (h : m.wf) (a : Nat) (b : Byte) : (m.write a b).wf := by
  induction m with
  | nil =>
    simp only [Memory.write]
    split
    · exact Memory.wf_nil
    · exact ⟨List.pairwise_singleton _ _, fun p hp => by simpa [List.mem_singleton.mp hp] using ‹¬b = _›⟩
  | cons p t ih =>
    obtain ⟨k, v⟩ := p
    have hs := List.pairwise_cons.mp h.1
    have hv := h.2 (k, v) List.mem_cons_self
    have ht := Memory.wf_tail h
    simp only [Memory.write]
    split
    · split
      · exact h
      · refine ⟨List.pairwise_cons.mpr ⟨fun q hq => ?_, h.1⟩, fun q hq => ?_⟩
        · rcases List.mem_cons.mp hq with hq | hq
          · subst hq; assumption
          · exact Nat.lt_trans ‹a < k› (hs.1 q hq)
        · rcases List.mem_cons.mp hq with hq | hq
          · subst hq; assumption
          · exact h.2 q hq
    · split
      · rename_i _ hak
        subst hak
        split
        · exact ht
        · refine ⟨List.pairwise_cons.mpr ⟨hs.1, ht.1⟩, fun q hq => ?_⟩
          rcases List.mem_cons.mp hq with hq | hq
          · subst hq; assumption
          · exact ht.2 q hq
      · have hka : k < a := by omega
        have hw := ih ht
        refine ⟨List.pairwise_cons.mpr ⟨fun q hq => ?_, hw.1⟩, fun q hq => ?_⟩
        · rcases Memory.mem_write hq with ⟨hq, _⟩ | hq
          · subst hq; exact hka
          · exact hs.1 q hq
        · rcases List.mem_cons.mp hq with hq | hq
          · subst hq; exact hv
          · exact hw.2 q hq

/-- A read after a write of a canonical memory. -/
theorem Memory.read_write {m : Memory} (h : m.wf) (a a' : Nat) (b : Byte) :
    (m.write a b).read a' = if a' = a then b else m.read a' := by
  induction m with
  | nil =>
    simp only [Memory.write]
    split
    · split <;> simp_all [Memory.read]
    · rfl
  | cons p t ih =>
    obtain ⟨k, v⟩ := p
    have hs := List.pairwise_cons.mp h.1
    have hbelow : ∀ c, c ≤ k → Memory.read t c = unlisted :=
      fun c hc => Memory.read_below t c (fun q hq => Nat.lt_of_le_of_lt hc (hs.1 q hq))
    simp only [Memory.write]
    split
    · rename_i hlt
      split
      · rename_i hb
        by_cases ha : a' = a
        · subst ha
          simp [Memory.read, Nat.ne_of_lt hlt, hbelow _ (Nat.le_of_lt hlt), hb]
        · simp [ha]
      · simp only [Memory.read]
    · split
      · rename_i _ hak
        subst hak
        split
        · rename_i hb
          by_cases ha : a' = a
          · subst ha; simp [hbelow _ (Nat.le_refl _), hb]
          · simp [Memory.read, ha]
        · by_cases ha : a' = a <;> simp [Memory.read, ha]
      · rename_i _ hak
        simp only [Memory.read]
        by_cases hk : a' = k
        · subst hk; simp [Ne.symm hak]
        · simp only [if_neg hk]
          exact ih (Memory.wf_tail h)

/-- Host writes in order keep the canonical form. -/
theorem Memory.wf_writeAll {m : Memory} (h : m.wf) (ws : List Host.Cell) : (m.writeAll ws).wf := by
  induction ws generalizing m with
  | nil => exact h
  | cons w ws ih => exact ih (Memory.wf_write h w.1 w.2)

@[simp] theorem Memory.writeAll_nil (m : Memory) : m.writeAll [] = m := rfl

@[simp] theorem Memory.writeAll_cons (m : Memory) (w : Host.Cell) (ws : List Host.Cell) :
    m.writeAll (w :: ws) = (m.write w.1 w.2).writeAll ws := rfl

/-- Two canonical memories that read the same at every address are the same list. -/
theorem Memory.ext_read {m m' : Memory} (h : m.wf) (h' : m'.wf) (hr : ∀ a, m.read a = m'.read a) : m = m' := by
  induction m generalizing m' with
  | nil =>
    cases m' with
    | nil => rfl
    | cons q t' =>
      have := hr q.1
      simp only [Memory.read, if_true] at this
      exact absurd this.symm (h'.2 q List.mem_cons_self)
  | cons p t ih =>
    have hs := List.pairwise_cons.mp h.1
    cases m' with
    | nil =>
      have := hr p.1
      simp only [Memory.read, if_true] at this
      exact absurd this (h.2 p List.mem_cons_self)
    | cons q t' =>
      have hs' := List.pairwise_cons.mp h'.1
      have hpq : p.1 = q.1 := by
        rcases Nat.lt_trichotomy p.1 q.1 with hlt | heq | hgt
        · have := hr p.1
          simp only [Memory.read, if_true, if_neg (Nat.ne_of_lt hlt)] at this
          rw [Memory.read_below t' p.1 (fun c hc => Nat.lt_trans hlt (hs'.1 c hc))] at this
          exact absurd this (h.2 p List.mem_cons_self)
        · exact heq
        · have := hr q.1
          simp only [Memory.read, if_true, if_neg (Nat.ne_of_lt hgt)] at this
          rw [Memory.read_below t q.1 (fun c hc => Nat.lt_trans hgt (hs.1 c hc))] at this
          exact absurd this.symm (h'.2 q List.mem_cons_self)
      have hv : p.2 = q.2 := by
        have := hr p.1
        simpa [Memory.read, hpq] using this
      have ht : t = t' := by
        refine ih (Memory.wf_tail h) (Memory.wf_tail h') (fun a => ?_)
        by_cases ha : a = p.1
        · subst ha
          rw [Memory.read_below t _ hs.1, Memory.read_below t' _ (fun c hc => hpq ▸ hs'.1 c hc)]
        · have := hr a
          simpa [Memory.read, ha, hpq ▸ ha] using this
      rw [ht, show p = q from Prod.ext hpq hv]

end Sys2Proof.Machine
end

