-- ==== Sys2Proof/Laws/State.lean ====
section
/-! SUPPORT. One lemma per field per update: what each shared operation makes of each field of the state. -/

namespace Sys2Proof.Machine

/-! ## frameReset -/

@[simp] theorem frameReset_cfg (s : State) : (frameReset s).cfg = s.cfg := rfl
@[simp] theorem frameReset_ibuf (s : State) : (frameReset s).ibuf = s.ibuf := rfl
@[simp] theorem frameReset_inputs (s : State) : (frameReset s).inputs = s.inputs := rfl
@[simp] theorem frameReset_phase (s : State) : (frameReset s).phase = s.phase := rfl
@[simp] theorem frameReset_len (s : State) : (frameReset s).len = s.len := rfl
@[simp] theorem frameReset_ptr (s : State) : (frameReset s).ptr = s.ptr := rfl
@[simp] theorem frameReset_dk (s : State) : (frameReset s).dk = s.dk := rfl
@[simp] theorem frameReset_errCode (s : State) : (frameReset s).errCode = s.errCode := rfl
@[simp] theorem frameReset_fr (s : State) : (frameReset s).fr = Frame.fresh s.cfg := rfl
@[simp] theorem frameReset_win (s : State) : (frameReset s).win = s.win := rfl
@[simp] theorem frameReset_x (s : State) : (frameReset s).x = s.x := rfl
@[simp] theorem frameReset_y (s : State) : (frameReset s).y = s.y := rfl
@[simp] theorem frameReset_out (s : State) : (frameReset s).out = s.out := rfl

/-! ## raiseError -/

@[simp] theorem raiseError_cfg (e : ErrorKind) (s : State) : (raiseError e s).cfg = s.cfg := rfl
@[simp] theorem raiseError_ibuf (e : ErrorKind) (s : State) : (raiseError e s).ibuf = s.ibuf := rfl
@[simp] theorem raiseError_inputs (e : ErrorKind) (s : State) : (raiseError e s).inputs = s.inputs := rfl
@[simp] theorem raiseError_phase (e : ErrorKind) (s : State) : (raiseError e s).phase = .error := rfl
@[simp] theorem raiseError_len (e : ErrorKind) (s : State) : (raiseError e s).len = s.len := rfl
@[simp] theorem raiseError_ptr (e : ErrorKind) (s : State) : (raiseError e s).ptr = s.ptr := rfl
@[simp] theorem raiseError_dk (e : ErrorKind) (s : State) : (raiseError e s).dk = s.dk := rfl
@[simp] theorem raiseError_errCode (e : ErrorKind) (s : State) : (raiseError e s).errCode = e.code := rfl
@[simp] theorem raiseError_fr (e : ErrorKind) (s : State) : (raiseError e s).fr = s.fr := rfl
@[simp] theorem raiseError_win (e : ErrorKind) (s : State) : (raiseError e s).win = s.win := rfl
@[simp] theorem raiseError_x (e : ErrorKind) (s : State) : (raiseError e s).x = s.x := rfl
@[simp] theorem raiseError_y (e : ErrorKind) (s : State) : (raiseError e s).y = s.y := rfl
@[simp] theorem raiseError_out (e : ErrorKind) (s : State) : (raiseError e s).out = s.out := rfl

/-! ## startRun -/

@[simp] theorem startRun_cfg (l : Nat) (s : State) : (startRun l s).cfg = s.cfg := rfl
@[simp] theorem startRun_ibuf (l : Nat) (s : State) : (startRun l s).ibuf = s.ibuf := rfl
@[simp] theorem startRun_inputs (l : Nat) (s : State) : (startRun l s).inputs = s.inputs := rfl
@[simp] theorem startRun_phase (l : Nat) (s : State) : (startRun l s).phase = .check := rfl
@[simp] theorem startRun_len (l : Nat) (s : State) : (startRun l s).len = l := rfl
@[simp] theorem startRun_ptr (l : Nat) (s : State) : (startRun l s).ptr = 0 := rfl
@[simp] theorem startRun_dk (l : Nat) (s : State) : (startRun l s).dk = 0 := rfl
@[simp] theorem startRun_errCode (l : Nat) (s : State) : (startRun l s).errCode = 0 := rfl
@[simp] theorem startRun_fr (l : Nat) (s : State) : (startRun l s).fr = Frame.fresh s.cfg := rfl
@[simp] theorem startRun_win (l : Nat) (s : State) : (startRun l s).win = Window.empty := rfl
@[simp] theorem startRun_x (l : Nat) (s : State) : (startRun l s).x = Config.startX := rfl
@[simp] theorem startRun_y (l : Nat) (s : State) : (startRun l s).y = Config.startY := rfl
@[simp] theorem startRun_out (l : Nat) (s : State) : (startRun l s).out = s.out := rfl

/-! ## resetState -/

@[simp] theorem resetState_cfg (s : State) : (resetState s).cfg = s.cfg := rfl
@[simp] theorem resetState_ibuf (s : State) : (resetState s).ibuf = s.ibuf := rfl
@[simp] theorem resetState_inputs (s : State) : (resetState s).inputs = s.inputs := rfl
@[simp] theorem resetState_phase (s : State) : (resetState s).phase = .idle := rfl
@[simp] theorem resetState_len (s : State) : (resetState s).len = 0 := rfl
@[simp] theorem resetState_ptr (s : State) : (resetState s).ptr = 0 := rfl
@[simp] theorem resetState_dk (s : State) : (resetState s).dk = 0 := rfl
@[simp] theorem resetState_errCode (s : State) : (resetState s).errCode = 0 := rfl
@[simp] theorem resetState_fr (s : State) : (resetState s).fr = Frame.fresh s.cfg := rfl
@[simp] theorem resetState_win (s : State) : (resetState s).win = Window.empty := rfl
@[simp] theorem resetState_x (s : State) : (resetState s).x = Config.startX := rfl
@[simp] theorem resetState_y (s : State) : (resetState s).y = Config.startY := rfl
@[simp] theorem resetState_out (s : State) : (resetState s).out = {} := rfl

/-! ## emit -/

@[simp] theorem emit_cfg (k : Command) (s : State) : (emit k s).cfg = s.cfg := rfl
@[simp] theorem emit_ibuf (k : Command) (s : State) : (emit k s).ibuf = s.ibuf := rfl
@[simp] theorem emit_inputs (k : Command) (s : State) : (emit k s).inputs = s.inputs := rfl
@[simp] theorem emit_phase (k : Command) (s : State) : (emit k s).phase = s.phase := rfl
@[simp] theorem emit_len (k : Command) (s : State) : (emit k s).len = s.len := rfl
@[simp] theorem emit_ptr (k : Command) (s : State) : (emit k s).ptr = s.ptr := rfl
@[simp] theorem emit_dk (k : Command) (s : State) : (emit k s).dk = s.dk := rfl
@[simp] theorem emit_errCode (k : Command) (s : State) : (emit k s).errCode = s.errCode := rfl
@[simp] theorem emit_fr (k : Command) (s : State) : (emit k s).fr = s.fr := rfl
@[simp] theorem emit_win (k : Command) (s : State) : (emit k s).win = s.win := rfl
@[simp] theorem emit_x (k : Command) (s : State) : (emit k s).x = (moved k s.x s.y).1 := rfl
@[simp] theorem emit_y (k : Command) (s : State) : (emit k s).y = (moved k s.x s.y).2 := rfl

/-! ## enterDrain -/

@[simp] theorem enterDrain_cfg (s : State) : (enterDrain s).cfg = s.cfg := rfl
@[simp] theorem enterDrain_ibuf (s : State) : (enterDrain s).ibuf = s.ibuf := rfl
@[simp] theorem enterDrain_inputs (s : State) : (enterDrain s).inputs = s.inputs := rfl
@[simp] theorem enterDrain_phase (s : State) : (enterDrain s).phase = .drain := rfl
@[simp] theorem enterDrain_len (s : State) : (enterDrain s).len = s.len := rfl
@[simp] theorem enterDrain_ptr (s : State) : (enterDrain s).ptr = s.ptr := rfl
@[simp] theorem enterDrain_dk (s : State) : (enterDrain s).dk = 0 := rfl
@[simp] theorem enterDrain_errCode (s : State) : (enterDrain s).errCode = s.errCode := rfl
@[simp] theorem enterDrain_fr (s : State) : (enterDrain s).fr = s.fr := rfl
@[simp] theorem enterDrain_win (s : State) : (enterDrain s).win = s.win := rfl
@[simp] theorem enterDrain_x (s : State) : (enterDrain s).x = s.x := rfl
@[simp] theorem enterDrain_y (s : State) : (enterDrain s).y = s.y := rfl
@[simp] theorem enterDrain_out (s : State) : (enterDrain s).out = s.out := rfl

/-! ## report -/

@[simp] theorem report_cfg (ty : FrameType) (q : BitVec 3) (s : State) : (report ty q s).cfg = s.cfg := rfl
@[simp] theorem report_ibuf (ty : FrameType) (q : BitVec 3) (s : State) : (report ty q s).ibuf = s.ibuf := rfl
@[simp] theorem report_inputs (ty : FrameType) (q : BitVec 3) (s : State) : (report ty q s).inputs = s.inputs := rfl
@[simp] theorem report_phase (ty : FrameType) (q : BitVec 3) (s : State) : (report ty q s).phase = s.phase := rfl
@[simp] theorem report_len (ty : FrameType) (q : BitVec 3) (s : State) : (report ty q s).len = s.len := rfl
@[simp] theorem report_ptr (ty : FrameType) (q : BitVec 3) (s : State) : (report ty q s).ptr = s.ptr := rfl
@[simp] theorem report_dk (ty : FrameType) (q : BitVec 3) (s : State) : (report ty q s).dk = s.dk := rfl
@[simp] theorem report_errCode (ty : FrameType) (q : BitVec 3) (s : State) : (report ty q s).errCode = s.errCode := rfl
@[simp] theorem report_fr (ty : FrameType) (q : BitVec 3) (s : State) : (report ty q s).fr = s.fr := rfl
@[simp] theorem report_win (ty : FrameType) (q : BitVec 3) (s : State) : (report ty q s).win = s.win := rfl
@[simp] theorem report_x (ty : FrameType) (q : BitVec 3) (s : State) : (report ty q s).x = s.x := rfl
@[simp] theorem report_y (ty : FrameType) (q : BitVec 3) (s : State) : (report ty q s).y = s.y := rfl

/-! ## dropInput -/

@[simp] theorem dropInput_cfg (s : State) : (s.dropInput).cfg = s.cfg := rfl
@[simp] theorem dropInput_ibuf (s : State) : (s.dropInput).ibuf = s.ibuf := rfl
@[simp] theorem dropInput_inputs (s : State) : (s.dropInput).inputs = s.inputs.tail := rfl
@[simp] theorem dropInput_phase (s : State) : (s.dropInput).phase = s.phase := rfl
@[simp] theorem dropInput_len (s : State) : (s.dropInput).len = s.len := rfl
@[simp] theorem dropInput_ptr (s : State) : (s.dropInput).ptr = s.ptr := rfl
@[simp] theorem dropInput_dk (s : State) : (s.dropInput).dk = s.dk := rfl
@[simp] theorem dropInput_errCode (s : State) : (s.dropInput).errCode = s.errCode := rfl
@[simp] theorem dropInput_fr (s : State) : (s.dropInput).fr = s.fr := rfl
@[simp] theorem dropInput_win (s : State) : (s.dropInput).win = s.win := rfl
@[simp] theorem dropInput_x (s : State) : (s.dropInput).x = s.x := rfl
@[simp] theorem dropInput_y (s : State) : (s.dropInput).y = s.y := rfl
@[simp] theorem dropInput_out (s : State) : (s.dropInput).out = s.out := rfl

/-! ## defaultOutputs -/

@[simp] theorem defaultOutputs_cfg (s : State) : (defaultOutputs s).cfg = s.cfg := rfl
@[simp] theorem defaultOutputs_ibuf (s : State) : (defaultOutputs s).ibuf = s.ibuf := rfl
@[simp] theorem defaultOutputs_inputs (s : State) : (defaultOutputs s).inputs = s.inputs := rfl
@[simp] theorem defaultOutputs_phase (s : State) : (defaultOutputs s).phase = s.phase := rfl
@[simp] theorem defaultOutputs_len (s : State) : (defaultOutputs s).len = s.len := rfl
@[simp] theorem defaultOutputs_ptr (s : State) : (defaultOutputs s).ptr = s.ptr := rfl
@[simp] theorem defaultOutputs_dk (s : State) : (defaultOutputs s).dk = s.dk := rfl
@[simp] theorem defaultOutputs_errCode (s : State) : (defaultOutputs s).errCode = s.errCode := rfl
@[simp] theorem defaultOutputs_fr (s : State) : (defaultOutputs s).fr = s.fr := rfl
@[simp] theorem defaultOutputs_win (s : State) : (defaultOutputs s).win = s.win := rfl
@[simp] theorem defaultOutputs_x (s : State) : (defaultOutputs s).x = s.x := rfl
@[simp] theorem defaultOutputs_y (s : State) : (defaultOutputs s).y = s.y := rfl
@[simp] theorem defaultOutputs_out (s : State) : (defaultOutputs s).out = {} := rfl

@[simp] theorem emit_frmValid (k : Command) (s : State) : (emit k s).out.frmValid = s.out.frmValid := rfl
@[simp] theorem emit_frmType (k : Command) (s : State) : (emit k s).out.frmType = s.out.frmType := rfl
@[simp] theorem emit_frmSeq (k : Command) (s : State) : (emit k s).out.frmSeq = s.out.frmSeq := rfl
@[simp] theorem emit_frmAddr (k : Command) (s : State) : (emit k s).out.frmAddr = s.out.frmAddr := rfl
@[simp] theorem emit_evValid (k : Command) (s : State) : (emit k s).out.evValid = true := rfl
@[simp] theorem emit_evCmd (k : Command) (s : State) : (emit k s).out.evCmd = commandCode s.cfg k := rfl
@[simp] theorem emit_evChanged (k : Command) (s : State) :
    (emit k s).out.evChanged = ((moved k s.x s.y).1 != s.x || (moved k s.x s.y).2 != s.y) := rfl

@[simp] theorem report_evValid (ty : FrameType) (q : BitVec 3) (s : State) :
    (report ty q s).out.evValid = s.out.evValid := rfl
@[simp] theorem report_evCmd (ty : FrameType) (q : BitVec 3) (s : State) :
    (report ty q s).out.evCmd = s.out.evCmd := rfl
@[simp] theorem report_evChanged (ty : FrameType) (q : BitVec 3) (s : State) :
    (report ty q s).out.evChanged = s.out.evChanged := rfl
@[simp] theorem report_frmValid (ty : FrameType) (q : BitVec 3) (s : State) :
    (report ty q s).out.frmValid = true := rfl
@[simp] theorem report_frmType (ty : FrameType) (q : BitVec 3) (s : State) :
    (report ty q s).out.frmType = frameTypeCode ty := rfl
@[simp] theorem report_frmSeq (ty : FrameType) (q : BitVec 3) (s : State) : (report ty q s).out.frmSeq = q := rfl
@[simp] theorem report_frmAddr (ty : FrameType) (q : BitVec 3) (s : State) :
    (report ty q s).out.frmAddr = s.fr.addr := rfl

/-! ## emitSlot, push and advance, which branch -/

@[simp] theorem emitSlot_none (s : State) : emitSlot none s = s := rfl
@[simp] theorem emitSlot_some (k : Command) (s : State) : emitSlot (some k) s = emit k s := rfl

@[simp] theorem emitSlot_cfg (o : Option Command) (s : State) : (emitSlot o s).cfg = s.cfg := by
  cases o <;> rfl
@[simp] theorem emitSlot_ibuf (o : Option Command) (s : State) : (emitSlot o s).ibuf = s.ibuf := by
  cases o <;> rfl
@[simp] theorem emitSlot_inputs (o : Option Command) (s : State) : (emitSlot o s).inputs = s.inputs := by
  cases o <;> rfl
@[simp] theorem emitSlot_phase (o : Option Command) (s : State) : (emitSlot o s).phase = s.phase := by
  cases o <;> rfl
@[simp] theorem emitSlot_len (o : Option Command) (s : State) : (emitSlot o s).len = s.len := by
  cases o <;> rfl
@[simp] theorem emitSlot_ptr (o : Option Command) (s : State) : (emitSlot o s).ptr = s.ptr := by
  cases o <;> rfl
@[simp] theorem emitSlot_dk (o : Option Command) (s : State) : (emitSlot o s).dk = s.dk := by
  cases o <;> rfl
@[simp] theorem emitSlot_errCode (o : Option Command) (s : State) : (emitSlot o s).errCode = s.errCode := by
  cases o <;> rfl
@[simp] theorem emitSlot_fr (o : Option Command) (s : State) : (emitSlot o s).fr = s.fr := by
  cases o <;> rfl
@[simp] theorem emitSlot_win (o : Option Command) (s : State) : (emitSlot o s).win = s.win := by
  cases o <;> rfl

@[simp] theorem push_cfg (k : Command) (s : State) : (push k s).cfg = s.cfg :=
  emitSlot_cfg s.win.oldest s
@[simp] theorem push_ibuf (k : Command) (s : State) : (push k s).ibuf = s.ibuf :=
  emitSlot_ibuf s.win.oldest s
@[simp] theorem push_inputs (k : Command) (s : State) : (push k s).inputs = s.inputs :=
  emitSlot_inputs s.win.oldest s
@[simp] theorem push_phase (k : Command) (s : State) : (push k s).phase = s.phase :=
  emitSlot_phase s.win.oldest s
@[simp] theorem push_len (k : Command) (s : State) : (push k s).len = s.len :=
  emitSlot_len s.win.oldest s
@[simp] theorem push_ptr (k : Command) (s : State) : (push k s).ptr = s.ptr :=
  emitSlot_ptr s.win.oldest s
@[simp] theorem push_dk (k : Command) (s : State) : (push k s).dk = s.dk :=
  emitSlot_dk s.win.oldest s
@[simp] theorem push_errCode (k : Command) (s : State) : (push k s).errCode = s.errCode :=
  emitSlot_errCode s.win.oldest s
@[simp] theorem push_fr (k : Command) (s : State) : (push k s).fr = s.fr :=
  emitSlot_fr s.win.oldest s
@[simp] theorem push_win (k : Command) (s : State) : (push k s).win = s.win.insert k := rfl
@[simp] theorem push_x (k : Command) (s : State) : (push k s).x = (emitSlot s.win.oldest s).x := rfl
@[simp] theorem push_y (k : Command) (s : State) : (push k s).y = (emitSlot s.win.oldest s).y := rfl
@[simp] theorem push_out (k : Command) (s : State) : (push k s).out = (emitSlot s.win.oldest s).out := rfl

@[simp] theorem advance_cfg (s : State) : (advance s).cfg = s.cfg := by
  unfold advance; dsimp only; split <;> rfl
@[simp] theorem advance_ibuf (s : State) : (advance s).ibuf = s.ibuf := by
  unfold advance; dsimp only; split <;> rfl
@[simp] theorem advance_inputs (s : State) : (advance s).inputs = s.inputs := by
  unfold advance; dsimp only; split <;> rfl
@[simp] theorem advance_len (s : State) : (advance s).len = s.len := by
  unfold advance; dsimp only; split <;> rfl
@[simp] theorem advance_errCode (s : State) : (advance s).errCode = s.errCode := by
  unfold advance; dsimp only; split <;> rfl
@[simp] theorem advance_fr (s : State) : (advance s).fr = s.fr := by
  unfold advance; dsimp only; split <;> rfl
@[simp] theorem advance_win (s : State) : (advance s).win = s.win := by
  unfold advance; dsimp only; split <;> rfl
@[simp] theorem advance_x (s : State) : (advance s).x = s.x := by
  unfold advance; dsimp only; split <;> rfl
@[simp] theorem advance_y (s : State) : (advance s).y = s.y := by
  unfold advance; dsimp only; split <;> rfl
@[simp] theorem advance_out (s : State) : (advance s).out = s.out := by
  unfold advance; dsimp only; split <;> rfl
@[simp] theorem advance_ptr (s : State) : (advance s).ptr = s.ptr + 1 := by
  unfold advance; dsimp only; split <;> rfl

theorem advance_phase (s : State) : (advance s).phase = if s.ptr + 1 = s.len then .drain else s.phase := by
  unfold advance; dsimp only; split <;> rfl

theorem advance_dk (s : State) : (advance s).dk = if s.ptr + 1 = s.len then 0 else s.dk := by
  unfold advance; dsimp only; split <;> rfl

/-! ## Window slots -/

@[simp] theorem setSlot_cur (w : Window) (i : Fin 3) (v : Option Command) : (w.setSlot i v).cur = w.cur := by
  unfold Window.setSlot; split <;> rfl

theorem slot_setSlot (w : Window) (i j : Fin 3) (v : Option Command) :
    (w.setSlot i v).slot j = if j = i then v else w.slot j := by
  fin_cases i <;> fin_cases j <;> rfl

@[simp] theorem slot_empty (i : Fin 3) : Window.empty.slot i = none := by fin_cases i <;> rfl

@[simp] theorem slot_clear (w : Window) (i : Fin 3) : w.clear.slot i = none := by fin_cases i <;> rfl

@[simp] theorem insert_cur (w : Window) (k : Command) : (w.insert k).cur = w.cur + 1 := rfl

end Sys2Proof.Machine
end

