-- ==== Sys2Proof/Laws/Ops.lean ====
section
/-! SUPPORT. For each shared operation one lemma that says once what it can do; proofs cite these instead of unfolding. -/

namespace Sys2Proof.Machine

/-- The host port passes a step on in exactly two ways: no write at all, or writes that keep every duty. -/
theorem hostWrites_next {inp : HostIn} {s t : State} (h : hostWrites inp s = .next t) :
    (inp.writes = [] ∧ t = s) ∨
    (inp.writes ≠ [] ∧ s.busy = false ∧ (inp.start = true → inp.rst = true) ∧
      (∀ w ∈ inp.writes, w.1 < s.cfg.ibufDepth) ∧ t = { s with ibuf := s.ibuf.writeAll inp.writes }) := by
  unfold hostWrites at h
  split at h
  · exact .inl ⟨‹_›, by cases h; rfl⟩
  · split at h
    · cases h
    · split at h
      · cases h
      · split at h
        · refine .inr ⟨‹_›, by simpa using ‹¬s.busy = true›, ?_, ?_, by cases h; rfl⟩
          · rename_i hs _
            intro hst
            simpa [hst] using hs
          · rename_i _ hall
            simpa using hall
        · cases h

/-- The host port without writes. -/
@[simp] theorem hostWrites_nil {inp : HostIn} (s : State) (h : inp.writes = []) : hostWrites inp s = .next s := by
  simp [hostWrites, h]

/-- A step that answers a next state runs its host operation on the state the host port passed on. -/
theorem step_next {s t : State} (h : step s = .next t) :
    ∃ u, hostWrites s.input s.dropInput = .next u ∧ exec s.strobe (defaultOutputs u) = .next t := by
  unfold step at h
  split at h
  · exact ⟨_, ‹_›, h⟩
  · cases h
  · cases h

/-- A step whose host writes pass is its host operation. -/
theorem step_of_hostWrites {s u : State} (h : hostWrites s.input s.dropInput = .next u) :
    step s = exec s.strobe (defaultOutputs u) := by
  simp [step, h]

/-- The three host operations (R84). -/
theorem strobe_cases (s : State) :
    (s.input.rst = true ∧ s.strobe = .reset s.input.start) ∨
    (s.input.rst = false ∧ s.input.start = true ∧ s.strobe = .start (lenPort s.cfg s.input.len)) ∨
    (s.input.rst = false ∧ s.input.start = false ∧ s.strobe = .noStrobe) := by
  unfold State.strobe strobeInstr
  cases s.input.rst <;> cases s.input.start <;> simp

/-- START that answers a next state: the phase's own step while busy, else a new run with len inside IBUF. -/
theorem execStart_next {l : Nat} {s t : State} (h : execStart l s = .next t) :
    (s.busy = true ∧ phaseStep s = .next t) ∨ (s.busy = false ∧ l ≤ s.cfg.ibufDepth ∧ t = startRun l s) := by
  unfold execStart at h
  split at h
  · exact .inl ⟨‹_›, h⟩
  · split at h
    · exact .inr ⟨by simpa using ‹¬s.busy = true›, ‹_›, by cases h; rfl⟩
    · cases h

/-- The phase's own step. -/
theorem phaseStep_next {s t : State} (h : phaseStep s = .next t) :
    ((s.phase = .idle ∨ s.phase = .done ∨ s.phase = .error) ∧ t = s) ∨
    (s.phase = .check ∧ t = checkBuffer s) ∨
    (s.phase = .scan ∧ s.ptr < s.len ∧ execRaw s.rawClass s = .next t) ∨
    (s.phase = .drain ∧ t = drainStep s) := by
  unfold phaseStep at h
  split at h
  · exact .inl ⟨.inl ‹_›, by cases h; rfl⟩
  · exact .inr (.inl ⟨‹_›, by cases h; rfl⟩)
  · unfold scanStep at h
    split at h
    · exact .inr (.inr (.inl ⟨‹_›, ‹_›, h⟩))
    · cases h
  · exact .inr (.inr (.inr ⟨‹_›, by cases h; rfl⟩))
  · exact .inl ⟨.inr (.inl ‹_›), by cases h; rfl⟩
  · exact .inl ⟨.inr (.inr ‹_›), by cases h; rfl⟩

/-- CHECK_BUFFER's four outcomes. -/
theorem checkBuffer_cases (s : State) :
    (s.len = 0 ∧ checkBuffer s = enterDrain s) ∨
    (s.len ≠ 0 ∧ s.ibuf.read 0 ≠ s.cfg.flagByte ∧ checkBuffer s = raiseError .noStartFlag s) ∨
    (s.len ≠ 0 ∧ s.ibuf.read 0 = s.cfg.flagByte ∧ s.ibuf.read (s.len - 1) ≠ s.cfg.flagByte ∧
      checkBuffer s = raiseError .noEndFlag s) ∨
    (s.len ≠ 0 ∧ s.ibuf.read 0 = s.cfg.flagByte ∧ s.ibuf.read (s.len - 1) = s.cfg.flagByte ∧
      checkBuffer s = { s with phase := .scan }) := by
  by_cases h0 : s.len = 0
  · exact .inl ⟨h0, by simp [checkBuffer, h0]⟩
  · by_cases h1 : s.ibuf.read 0 = s.cfg.flagByte
    · by_cases h2 : s.ibuf.read (s.len - 1) = s.cfg.flagByte
      · exact .inr (.inr (.inr ⟨h0, h1, h2, by simp [checkBuffer, h0, h1, h2]⟩))
      · exact .inr (.inr (.inl ⟨h0, h1, h2, by simp [checkBuffer, h0, h1, h2]⟩))
    · exact .inr (.inl ⟨h0, h1, by simp [checkBuffer, h0, h1]⟩)

/-- What becomes of a Data frame's command field. -/
theorem dataOutcome_cases (s : State) :
    (∃ k, commandClass s.cfg s.fr.commandField = .valid k ∧ dataOutcome s = .goes (push k s)) ∨
    (∃ f, commandClass s.cfg s.fr.commandField = .invalid f ∧
      dataOutcome s = .raised (raiseError .invalidCommand s)) := by
  unfold dataOutcome
  split
  · exact .inl ⟨_, ‹_›, rfl⟩
  · exact .inr ⟨_, ‹_›, rfl⟩

/-- CLOSE_FRAME's outcomes: the two integrity errors, or the control class. -/
theorem closeFrame_cases (s : State) :
    (s.fr.tooShort = true ∧ closeFrame s = .raised (raiseError .tooShort s)) ∨
    (s.fr.tooShort = false ∧ s.fr.crc ≠ s.cfg.crcGood ∧ closeFrame s = .raised (raiseError .checksumInvalid s)) ∨
    (s.fr.tooShort = false ∧ s.fr.crc = s.cfg.crcGood ∧ closeFrame s = closeClass (controlClass s.fr.ctrl) s) := by
  unfold closeFrame
  cases h : s.fr.tooShort
  · by_cases hc : s.fr.crc = s.cfg.crcGood <;> simp [crcOk, hc]
  · simp

/-- The triple check fires exactly when three slots hold one command. -/
theorem triple_iff (a b c : Option Command) : triple a b c = true ↔ ∃ k, a = some k ∧ b = some k ∧ c = some k := by
  cases a <;> cases b <;> cases c <;> simp [triple]
  grind

/-- What an insertion makes of each slot (R181). -/
theorem slot_insert (w : Window) (k : Command) (i : Fin 3) :
    (w.insert k).slot i =
      if w.slot (w.cur + 1) = some k ∧ w.slot (w.cur + 2) = some k then none
      else if i = w.cur then some k else w.slot i := by
  obtain ⟨a, b, c, cur⟩ := w
  fin_cases cur <;> fin_cases i <;>
    simp [Window.insert, Window.setSlot, Window.slot, Window.clear, triple] <;> grind

/-- The close by control class: a Data frame's command is considered after its report, a supervisory frame is reported
and that is all. -/
theorem closeClass_cases (k : ControlClass) (s : State) :
    (∃ g q, k = .iFrame g q ∧ closeClass k s = dataOutcome (report .data q s)) ∨
    (∃ g q, (k = .rr g q ∨ k = .rnr g q) ∧ closeClass k s = .goes (report .acknowledge q s)) ∨
    (∃ g q, (k = .rej g q ∨ k = .srej g q) ∧ closeClass k s = .goes (report .negativeAcknowledge q s)) := by
  cases k with
  | iFrame g q => exact .inl ⟨g, q, rfl, rfl⟩
  | rr g q => exact .inr (.inl ⟨g, q, .inl rfl, rfl⟩)
  | rnr g q => exact .inr (.inl ⟨g, q, .inr rfl, rfl⟩)
  | rej g q => exact .inr (.inr ⟨g, q, .inl rfl, rfl⟩)
  | srej g q => exact .inr (.inr ⟨g, q, .inr rfl, rfl⟩)

/-- The step of the byte that SCAN reads: the five classes of R71, each with its condition and its effect. -/
theorem execRaw_next {s t : State} (h : execRaw s.rawClass s = .next t) :
    let b := s.ibuf.read s.ptr
    (b = s.cfg.flagByte ∧ s.fr.rc = 0 ∧ t = advance (frameReset s)) ∨
    (b = s.cfg.flagByte ∧ s.fr.rc ≠ 0 ∧ t = (closeFrame s).finish (fun t => advance (frameReset t))) ∨
    (b ≠ s.cfg.flagByte ∧ s.fr.esc = true ∧ t = advance { s with fr := s.fr.escaped s.cfg b }) ∨
    (b ≠ s.cfg.flagByte ∧ s.fr.esc = false ∧ b = s.cfg.escByte ∧ t = advance { s with fr := s.fr.escape }) ∨
    (b ≠ s.cfg.flagByte ∧ s.fr.esc = false ∧ b ≠ s.cfg.escByte ∧
      t = advance { s with fr := s.fr.literal s.cfg b }) := by
  intro b
  unfold State.rawClass Sys2Proof.rawClass at h
  split at h
  · split at h <;> cases h <;> simp_all [b]
  · split at h
    · cases h; exact .inr (.inr (.inl ⟨‹_›, ‹_›, rfl⟩))
    · split at h
      · cases h; exact .inr (.inr (.inr (.inl ⟨‹_›, by simpa using ‹¬s.fr.esc = true›, ‹_›, rfl⟩)))
      · cases h; exact .inr (.inr (.inr (.inr ⟨‹_›, by simpa using ‹¬s.fr.esc = true›, ‹_›, rfl⟩)))

/-- A step that answers a next state, whole: the input is taken, the host's writes (none while busy) have landed, the
outputs are 0, and one of RESET, an accepted START and the phase's own step ran. -/
theorem step_cases {s t : State} (h : step s = .next t) :
    ∃ u : State, u = { s with inputs := s.inputs.tail, ibuf := s.ibuf.writeAll s.input.writes, out := {} } ∧
      (s.busy = true → s.input.writes = []) ∧
      ((s.input.rst = true ∧ t = resetState u) ∨
       (s.input.rst = false ∧ s.input.start = true ∧ s.busy = false ∧
         lenPort s.cfg s.input.len ≤ s.cfg.ibufDepth ∧ t = startRun (lenPort s.cfg s.input.len) u) ∨
       (s.input.rst = false ∧ (s.input.start = true → s.busy = true) ∧ phaseStep u = .next t)) := by
  obtain ⟨v, hv, he⟩ := step_next h
  have hu : defaultOutputs v =
      { s with inputs := s.inputs.tail, ibuf := s.ibuf.writeAll s.input.writes, out := {} } ∧
      (s.busy = true → s.input.writes = []) := by
    rcases hostWrites_next hv with ⟨hw, rfl⟩ | ⟨_, hb, _, _, rfl⟩
    · exact ⟨by rw [hw]; rfl, fun _ => hw⟩
    · have hb' : s.busy = false := hb
      exact ⟨rfl, fun h' => absurd h' (by simp [hb'])⟩
  refine ⟨_, rfl, hu.2, ?_⟩
  rw [hu.1] at he
  rcases strobe_cases s with ⟨hr, e⟩ | ⟨hr, hs, e⟩ | ⟨hr, hs, e⟩
  · rw [e] at he; cases he; exact .inl ⟨hr, rfl⟩
  · rw [e] at he
    rcases execStart_next he with ⟨hb, hp⟩ | ⟨hb, hl, rfl⟩
    · exact .inr (.inr ⟨hr, fun _ => hb, hp⟩)
    · exact .inr (.inl ⟨hr, hs, hb, hl, rfl⟩)
  · rw [e] at he
    exact .inr (.inr ⟨hr, by simp [hs], he⟩)

end Sys2Proof.Machine
end

