-- ==== Sys2Proof/Laws/PerInstr.lean ====
section
/-! SUPPORT. Statements about every decoded form, proved one constructor at a time. -/

namespace Sys2Proof.Laws.EncodedWidth

/-- A form's encoding has the form's width (R87), whatever the parameters. -/
def Statement (i : Instr) : Prop := ∀ c : Config, (encode c i).length = i.byteCount

theorem flagBoundary : Statement .flagBoundary := fun _ => rfl

theorem flagClose : Statement .flagClose := fun _ => rfl

theorem esc : Statement .esc := fun _ => rfl

theorem escaped (b : Byte) : Statement (.escaped b) := fun _ => rfl

theorem escPair (b : Byte) : Statement (.escPair b) := fun _ => rfl

theorem lit (b : Byte) : Statement (.lit b) := fun _ => rfl

theorem iFrame (g : BitVec 4) (q : BitVec 3) : Statement (.iFrame g q) := fun _ => rfl

theorem rr (g : BitVec 2) (q : BitVec 3) : Statement (.rr g q) := fun _ => rfl

theorem rnr (g : BitVec 2) (q : BitVec 3) : Statement (.rnr g q) := fun _ => rfl

theorem rej (g : BitVec 2) (q : BitVec 3) : Statement (.rej g q) := fun _ => rfl

theorem srej (g : BitVec 2) (q : BitVec 3) : Statement (.srej g q) := fun _ => rfl

theorem up : Statement .up := fun _ => rfl

theorem down : Statement .down := fun _ => rfl

theorem right : Statement .right := fun _ => rfl

theorem left : Statement .left := fun _ => rfl

theorem invalidCommand (f : Option Byte) : Statement (.invalidCommand f) := by intro c; cases f <;> rfl

theorem reset (st : Bool) : Statement (.reset st) := fun _ => rfl

theorem start (len : Nat) : Statement (.start len) := fun _ => rfl

theorem noStrobe : Statement .noStrobe := fun _ => rfl

end Sys2Proof.Laws.EncodedWidth
end

