-- ==== Sys2Proof/Tests/Slice0.lean ====
section
/-! SUPPORT. Small tests. Expected values are the spec's: its worked examples, its tables, and the vectors of
95_test_vectors.md (named in each comment). The theorems named `meets_…` show concrete states and operands that meet the
hypotheses of the statement they name. -/

namespace Sys2Proof.Tests

open Sys2Proof Sys2Proof.Machine

/-! ## Helpers -/

/-- The next state of an outcome. -/
def after (o : Host.Outcome State Fault Refusal) : Option State :=
  match o with
  | .next t => some t
  | .fault _ => none
  | .refused _ => none

/-- The fault of an outcome. -/
def faultOf (o : Host.Outcome State Fault Refusal) : Option Fault :=
  match o with
  | .next _ => none
  | .fault r => some r
  | .refused _ => none

theorem after_isSome (o : Host.Outcome State Fault Refusal) : (after o).isSome = true ↔ ∃ t, o = .next t := by
  cases o <;> simp [after]

/-- IBUF holding a list of bytes from address 0. -/
def buffer (bs : List Byte) : Memory := Memory.writeAll [] ((List.range bs.length).zip bs)

/-- A state in SCAN at `ptr` of a buffer, with frame registers `f`. -/
def scanAt (bs : List Byte) (ptr : Nat) (f : Frame) : State :=
  { State.resetWith Config.std (buffer bs) [] with phase := .scan, len := bs.length, ptr := ptr, fr := f }

/-- Frame registers just after a flag. -/
def fresh : Frame := Frame.fresh Config.std

/-- The frame registers at the closing flag of FF 00 01 B6 11. -/
def upFrame : Frame := fresh.feedAll Config.std [0xFF, 0x00, 0x01, 0xB6, 0x11]

/-- A state in a phase, with the registers of reset otherwise. -/
def inPhase (p : Phase) : State := { State.reset with phase := p }

/-- A state in DRAIN with a window. -/
def draining (w : Window) (dk : Fin 3) : State := { State.reset with phase := .drain, win := w, dk := dk }

/-- A state in DRAIN of a full window, U D R from slot 0, with cursor 1. -/
def drainUDR (dk : Fin 3) : State := draining ⟨some .up, some .down, some .right, 1⟩ dk

/-- A state at a position. -/
def atPos (x y : BitVec 3) : State := { State.reset with x := x, y := y }

/-- CHECK of a buffer. -/
def checking (bs : List Byte) : State := { State.resetWith Config.std (buffer bs) [] with phase := .check, len := bs.length }

/-- A host that starts a run on a buffer, from IDLE. -/
def starting (bs : List Byte) : State :=
  State.resetWith Config.std (buffer bs) [{ start := true, len := bs.length }]

/-! ## WellFormed refuses ill-formed terms, one for each check -/

theorem test_wf_escaped_flag : Instr.wf Config.std (.escaped 0x7E) = false := by decide
theorem test_wf_pair_flag : Instr.wf Config.std (.escPair 0x7E) = false := by decide
theorem test_wf_lit_flag : Instr.wf Config.std (.lit 0x7E) = false := by decide
theorem test_wf_lit_esc : Instr.wf Config.std (.lit 0x7D) = false := by decide
theorem test_wf_invalid_is_not_a_command :
    ([0x01, 0x02, 0x03, 0x04].map (fun b => Instr.wf Config.std (.invalidCommand (some b)))) =
      [false, false, false, false] := by decide
theorem test_wf_len_of_port : Instr.wf Config.std (.start 65536) = false := by decide
theorem test_config_wf :
    Config.std.wf = true ∧ { Config.std with escByte := 0x7E }.wf = false ∧
    { Config.std with escXor := 0x00 }.wf = false ∧ { Config.std with escXor := 0x03 }.wf = false ∧
    { Config.std with lenW := 0 }.wf = false ∧ { Config.std with cmdLeft := 0x05 }.wf = false ∧
    { Config.std with cmdUp := 0x02 }.wf = false := by decide

/-! ## Decoding: words written out from the tables of R71, R72, R76, R82, R84 -/

/-- Raw bytes (R71): 7E with rc = 0 and rc > 0 and whatever esc is, 7D with esc = 0, 7D with esc = 1, 41. -/
theorem test_decode_raw :
    decodeWhole Config.std (.raw false false) [0b01111110#8] = some .flagBoundary ∧
    decodeWhole Config.std (.raw true true) [0b01111110#8] = some .flagClose ∧
    decodeWhole Config.std (.raw false true) [0b01111101#8] = some .esc ∧
    decodeWhole Config.std (.raw true true) [0b01111101#8] = some (.escaped 0x7D) ∧
    decodeWhole Config.std (.raw false true) [0b01000001#8] = some (.lit 0x41) := by decide

/-- Escape pairs (R72, R126). -/
theorem test_decode_pair :
    decodeWhole Config.std .pair [0b01111101#8, 0b01011110#8] = some (.escPair 0x5E) ∧
    decodeWhole Config.std .pair [0b01111101#8, 0b01111110#8] = none ∧
    decodeWhole Config.std .pair [0b00000001#8, 0b01011110#8] = none := by decide

/-- Control bytes (R75, R76, R79), SEQ in bits 7:5: I with SEQ 3 and ignored bits 1111 (7E), RR with SEQ 4 (81),
RNR with SEQ 5 (A5), REJ with SEQ 1 (29), SREJ with SEQ 7 and both ignored bits set (FF), and an RR with bit 4 alone
(11, V-CLS-14). -/
theorem test_decode_control :
    decodeWhole Config.std .control [0b01111110#8] = some (.iFrame 0b1111#4 3) ∧
    decodeWhole Config.std .control [0b10000001#8] = some (.rr 0b00#2 4) ∧
    decodeWhole Config.std .control [0b10100101#8] = some (.rnr 0b00#2 5) ∧
    decodeWhole Config.std .control [0b00101001#8] = some (.rej 0b00#2 1) ∧
    decodeWhole Config.std .control [0b11111111#8] = some (.srej 0b11#2 7) ∧
    decodeWhole Config.std .control [0b00010001#8] = some (.rr 0b10#2 0) := by decide

/-- Command bytes (R82, R83). -/
theorem test_decode_command :
    decodeWhole Config.std .command [0b00000001#8] = some .up ∧
    decodeWhole Config.std .command [0b00000010#8] = some .down ∧
    decodeWhole Config.std .command [0b00000011#8] = some .right ∧
    decodeWhole Config.std .command [0b00000100#8] = some .left ∧
    decodeWhole Config.std .command [0b00000101#8] = some (.invalidCommand (some 0x05)) ∧
    decodeWhole Config.std .command [] = some (.invalidCommand none) := by decide

/-- Strobes (R84). -/
theorem test_decode_strobe :
    decodeWhole Config.std (.strobe 9) [0b10#8] = some (.reset false) ∧
    decodeWhole Config.std (.strobe 9) [0b11#8] = some (.reset true) ∧
    decodeWhole Config.std (.strobe 9) [0b01#8] = some (.start 9) ∧
    decodeWhole Config.std (.strobe 9) [0b00#8] = some .noStrobe ∧
    decodeWhole Config.std (.strobe 9) [0b100#8] = none := by decide

/-- Words of opcode_table.json: FLAG, ESC, ESC_PAIR (first byte in bits 15:8), LEFT, SREJ. -/
theorem test_decode_table_words :
    decodeTableWord 8 0x7E = some .flagBoundary ∧ decodeTableWord 8 0x7D = some .esc ∧
    decodeTableWord 16 0x7D5E = some (.escPair 0x5E) ∧ decodeTableWord 8 0x04 = some .left ∧
    decodeTableWord 8 0x0D = some (.srej 0 0) ∧ decodeTableWord 2 0b10 = some (.reset false) := by decide

/-- A placed table word is what the next step runs: 7E is a boundary, 04 drains LEFT, 0D reports an SREJ. -/
theorem test_fetch_words :
    (after (step (State.reset.withFetchWord 8 0x7E))).map (fun t => (t.ptr, t.fr.rc)) = some (2, 0) ∧
    (after (step (State.reset.withFetchWord 8 0x04))).map (fun t => t.out.evCmd) = some 4 ∧
    (after (step (State.reset.withFetchWord 8 0x0D))).map (fun t => t.out.frmType) = some 2 ∧
    (after (step (State.reset.withFetchWord 2 0b01))).map (fun t => t.phase) = some .check := by decide

/-! ## CRC (V-CRC-1, 2, 7, 10, 11; R101, R102, R106) -/

theorem test_crc_table :
    [0x00, 0x01, 0x80, 0xFF].map (crcTable 0x8408) = [0x0000, 0x1189, 0x8408, 0x0F78] := by decide
theorem test_crc_update :
    crcUpdate Config.std 0xFFFF 0xFF = 0x00FF ∧ crcUpdate Config.std 0x1234 0x56 = 0x4006 := by decide
theorem test_crc_check_value :
    crcFold Config.std 0xFFFF [0x31, 0x32, 0x33, 0x34, 0x35, 0x36, 0x37, 0x38, 0x39] = 0x6F91 := by decide
theorem test_fcs : fcsBytes Config.std [0xFF, 0x00, 0x01] = [0xB6, 0x11] := by decide

/-! ## Raw-byte forms -/

/-- R121's worked example. -/
theorem test_lit :
    (after (exec (.lit 0xFF) (scanAt [0x7E, 0xFF, 0x7E] 1 fresh))).map
      (fun t => (t.fr.rc, t.fr.n, t.fr.addr, t.fr.crc, t.ptr)) = some (1, 1, 0xFF, 0x00FF, 2) := by decide

/-- R122's worked example: rc 1 and esc 0 give rc 2 and esc 1, n unchanged. -/
theorem test_esc :
    (after (exec .esc (scanAt [0x7E, 0x41, 0x7D, 0x7E] 2 { fresh with rc := 1, n := 1 }))).map
      (fun t => (t.fr.rc, t.fr.n, t.fr.esc)) = some (2, 1, true) := by decide

/-- R123's worked example: with n = 2, ESCAPED 5E gives cmdb 7E and n 3. -/
theorem test_escaped :
    (after (exec (.escaped 0x5E) (scanAt [0x7E, 0x5E, 0x7E] 1 { fresh with esc := true, rc := 3, n := 2 }))).map
      (fun t => (t.fr.cmdb, t.fr.n, t.fr.esc)) = some (0x7E, 3, false) := by decide

/-- R72: 7D 7D is the one byte 5D; two raw bytes counted. -/
theorem test_esc_pair :
    (after (exec (.escPair 0x7D) (scanAt [0x7E, 0x7D, 0x7D, 0x7E] 1 fresh))).map
      (fun t => (t.fr.addr, t.fr.n, t.fr.rc, t.ptr)) = some (0x5D, 1, 2, 3) := by decide

/-- R154: the flag at address LEN - 1 enters DRAIN; one before it does not. -/
theorem test_flag_boundary :
    (after (exec .flagBoundary (scanAt [0x7E, 0x7E] 1 fresh))).map (fun t => (t.phase, t.ptr)) = some (.drain, 2) ∧
    (after (exec .flagBoundary (scanAt [0x7E, 0x7E] 0 fresh))).map (fun t => (t.phase, t.ptr)) = some (.scan, 1) := by
  decide

/-- R155's worked example: FF 00 01 B6 11 closes as Data(01) and UP is pushed. -/
theorem test_flag_close_data :
    (after (exec .flagClose (scanAt [0x7E, 0xFF, 0x00, 0x01, 0xB6, 0x11, 0x7E] 6 upFrame))).map
      (fun t => (t.win.slot0, t.win.cur, t.out.frmValid, t.out.frmAddr, t.fr)) =
        some (some .up, 1, true, 0xFF, fresh) := by decide

/-- V-DEC-4, V-DEC-6, V-DEC-7, V-DEC-8: three raw bytes are too short; 7D 5E 7D 5E has a bad residue; 7D 20 7D 20 is a
Data frame without a command; 7D 5E 81 6A is an RR. -/
theorem test_flag_close_outcomes :
    ([[0x01, 0x02, 0x03], [0x7D, 0x5E, 0x7D, 0x5E], [0x7D, 0x20, 0x7D, 0x20], [0x7D, 0x5E, 0x81, 0x6A]].map (fun r =>
      (after (exec .flagClose (scanAt ([0x7E] ++ r ++ [0x7E]) (r.length + 1) (fresh.feedAll Config.std r)))).map
        (fun t => (t.errCode, t.out.frmType)))) =
      [some (4, 0), some (5, 0), some (6, 0), some (0, 1)] := by decide

/-! ## Control-byte forms (R131 to R135) -/

theorem test_i_frame :
    (after (exec (.iFrame 0 2) (scanAt [0x7E] 0 upFrame))).map (fun t => (t.win.slot0, t.out.frmSeq, t.out.frmType)) =
      some (some .up, 2, 0) := by decide

/-- R133's and R134's worked examples, with RR and SREJ beside them. -/
theorem test_supervisory :
    ([Instr.rr 0 0, Instr.rnr 0 5, Instr.rej 0 1, Instr.srej 3 7].map (fun i =>
      (after (exec i (scanAt [0x7E] 0 upFrame))).map (fun t => (t.out.frmType, t.out.frmSeq, t.win.cur)))) =
      [some (1, 0, 0), some (1, 5, 0), some (2, 1, 0), some (2, 7, 0)] := by decide

/-! ## Command-byte forms (V-POS-1, 2, 3, 4, 5, 6, 7, 8) -/

theorem test_up :
    (after (exec .up (atPos 0 4))).map (fun t => (t.x, t.y, t.out.evCmd, t.out.evChanged)) = some (0, 3, 1, true) ∧
    (after (exec .up (atPos 0 0))).map (fun t => (t.x, t.y, t.out.evCmd, t.out.evChanged)) = some (0, 0, 1, false) := by
  decide
theorem test_down :
    (after (exec .down (atPos 2 1))).map (fun t => (t.x, t.y, t.out.evCmd, t.out.evChanged)) = some (2, 2, 2, true) ∧
    (after (exec .down (atPos 1 4))).map (fun t => (t.x, t.y, t.out.evCmd, t.out.evChanged)) = some (1, 4, 2, false) := by
  decide
theorem test_right :
    (after (exec .right (atPos 0 4))).map (fun t => (t.x, t.y, t.out.evCmd, t.out.evChanged)) = some (1, 4, 3, true) ∧
    (after (exec .right (atPos 4 0))).map (fun t => (t.x, t.y, t.out.evCmd, t.out.evChanged)) = some (4, 0, 3, false) := by
  decide
theorem test_left :
    (after (exec .left (atPos 3 2))).map (fun t => (t.x, t.y, t.out.evCmd, t.out.evChanged)) = some (2, 2, 4, true) ∧
    (after (exec .left (atPos 0 2))).map (fun t => (t.x, t.y, t.out.evCmd, t.out.evChanged)) = some (0, 2, 4, false) := by
  decide

/-- R200 on the unreachable coordinates: 5, 6 and 7 all give 4, both ways. -/
theorem test_step_axis_unreachable :
    [5, 6, 7].map (fun v => (stepAxis v 1, stepAxis v (-1))) = [(4, 4), (4, 4), (4, 4)] := by decide

theorem test_invalid_command :
    (after (exec (.invalidCommand none) (scanAt [0x7E] 0 upFrame))).map (fun t => (t.phase, t.errCode, t.ptr)) =
      some (.error, 6, 0) := by decide

/-! ## Host strobes (V-SEQ-1, 4, 5; R150, R183) -/

theorem test_reset :
    (after (exec (.reset true) (drainUDR 2))).map (fun t => (t.phase, t.x, t.y, t.fr.crc, t.win)) =
      some (.idle, 0, 4, 0xFFFF, Window.empty) := by decide
theorem test_start :
    (after (exec (.start 2) State.reset)).map (fun t => (t.phase, t.len, t.ptr, t.x, t.y)) =
      some (.check, 2, 0, 0, 4) := by decide
theorem test_none_check :
    ([[], [0x7E, 0x7E], [0x00, 0x7E], [0x7E, 0x00], [0x00, 0x01]].map (fun bs =>
      (after (exec .noStrobe (checking bs))).map (fun t => (t.phase, t.errCode)))) =
      [some (.drain, 0), some (.scan, 0), some (.error, 1), some (.error, 2), some (.error, 1)] := by decide

/-- R183's worked example: from [D, D, R] with cur = 1 the first drain step emits slot 1. -/
theorem test_none_drain :
    (after (exec .noStrobe (draining ⟨some .down, some .down, some .right, 1⟩ 0))).map
      (fun t => (t.out.evCmd, t.win.slot1, t.win.cur, t.dk)) = some (2, none, 1, 1) := by decide

/-! ## Debouncer (V-DEB-5, 8, 11; V-DEB-EVICT) -/

theorem test_window_run :
    (Window.empty.insertAll (List.replicate 7 .up), Window.empty.emitted (List.replicate 7 .up)) =
      (⟨some .up, none, none, 1⟩, []) := by decide
theorem test_window_order :
    (Window.empty.emitted [.right, .down, .right, .down], (Window.empty.insertAll [.right, .down, .right, .down]).drained) =
      ([.right], [.down, .right, .down]) := by decide
theorem test_window_evict_and_clear :
    (Window.empty.emitted [.left, .up, .up, .up], Window.empty.insertAll [.left, .up, .up, .up]) =
      ([.left], ⟨none, none, none, 1⟩) := by decide

/-- Memory: writing the value an unlisted address reads as removes the entry. -/
theorem test_memory_canonical : Memory.write (Memory.write [] 3 0x7E) 3 0x00 = [] := by decide

/-! ## Witnesses: concrete states and operands that meet each statement's hypotheses -/

/-- ResetWritesEveryRegister, second clause: `start` up as well in a busy state, and host writes in IDLE. -/
theorem meets_ResetWritesEveryRegister :
    (let s := { drainUDR 1 with inputs := [{ rst := true, start := true }] }
     s.input.rst = true ∧ (after (hostWrites s.input s.dropInput)).isSome = true) ∧
    (let s := { State.reset with inputs := [{ rst := true, start := true, writes := [(3, 0x7E)] }] }
     s.input.rst = true ∧ (after (hostWrites s.input s.dropInput)).isSome = true) := by decide

/-- StartBeginsARun, in each of its phases, at both ends of `len`. -/
theorem meets_StartBeginsARun :
    (inPhase .idle).phase = .idle ∧ (inPhase .done).phase = .done ∧ (inPhase .error).phase = .error ∧
    0 ≤ State.reset.cfg.ibufDepth ∧ 65535 ≤ State.reset.cfg.ibufDepth := by decide

/-- StartAndLenHaveNoEffectOutsideStart: a busy state, and an idle one with `start` down. -/
theorem meets_StartAndLenHaveNoEffectOutsideStart :
    (drainUDR 0).busy = true ∧ (State.reset.busy = true ∨ (false = false ∧ false = false)) := by decide

/-- BrokenHostDutiesStop: one state for each clause. -/
theorem meets_BrokenHostDutiesStop :
    (State.reset.busy = false ∧ State.reset.cfg.ibufDepth < 65536) ∧
    (let s := { drainUDR 0 with inputs := [{ writes := [(0, 1)] }] }
     s.input.writes ≠ [] ∧ s.busy = true) ∧
    (let s := { State.reset with inputs := [{ start := true, writes := [(0, 1)] }] }
     s.input.writes ≠ [] ∧ s.busy = false ∧ s.input.start = true ∧ s.input.rst = false) ∧
    (let s := { State.reset with inputs := [{ writes := [(65535, 1)] }] }
     s.busy = false ∧ (s.input.start = true → s.input.rst = true) ∧
       ∃ w ∈ s.input.writes, s.cfg.ibufDepth ≤ w.1) := by decide

/-- HoldPhasesChangeNothing: each phase, with a host write in it. -/
theorem meets_HoldPhasesChangeNothing :
    ∀ p ∈ [Phase.idle, .done, .error],
      let s := { inPhase p with inputs := [{ writes := [(1, 0x7E)] }] }
      s.phase = p ∧ s.input.rst = false ∧ s.input.start = false ∧
        (after (hostWrites s.input s.dropInput)).isSome = true := by decide

/-- CheckBufferOutcome: one buffer for each clause, the last ones of one byte and of two. -/
theorem meets_CheckBufferOutcome :
    ((checking []).phase = .check ∧ (checking []).len = 0) ∧
    ((checking [0x7D, 0x7E]).len ≠ 0 ∧ (checking [0x7D, 0x7E]).ibuf.read 0 ≠ 0x7E) ∧
    ((checking [0x7E, 0x01]).ibuf.read 0 = 0x7E ∧ (checking [0x7E, 0x01]).ibuf.read 1 ≠ 0x7E) ∧
    ((checking [0x7E]).len ≠ 0 ∧ (checking [0x7E]).ibuf.read 0 = 0x7E ∧ (checking [0x7E]).ibuf.read (1 - 1) = 0x7E) := by
  decide

/-- DrainStepReleasesOneSlot: dk at 0 and at 2, full and empty slots; DrainTakesThreeSteps: dk at 0,
`start` up in two steps, and a host write and a RESET in the steps after the three. -/
theorem meets_DrainStepReleasesOneSlot :
    (drainUDR 0).phase = .drain ∧ (drainUDR 0).dk ≠ 2 ∧ (drainUDR 2).dk = 2 ∧
    (draining Window.empty 1).win.slot 1 = none := by decide
theorem meets_DrainTakesThreeSteps :
    let s := { drainUDR 0 with
      inputs := [{ start := true, len := 3 }, {}, { start := true }, { writes := [(0, 0x7E)] }, { rst := true }] }
    s.phase = .drain ∧ s.dk = 0 ∧ ∀ h ∈ s.inputs.take 3, h.rst = false ∧ h.writes = [] := by decide

/-- StepRunsTheDecodedForm: a quiet step, a step with an accepted host write, and a SCAN step. -/
theorem meets_StepRunsTheDecodedForm :
    (after (hostWrites State.reset.input State.reset.dropInput)).isSome = true ∧
    (let s := { State.reset with inputs := [{ writes := [(5, 0x7E)] }] }
     (after (hostWrites s.input s.dropInput)).isSome = true ∧
       decodeWhole s.cfg (.strobe (lenPort s.cfg s.input.len)) [0x00] = some .noStrobe) ∧
    (let s := scanAt [0x7E, 0x41, 0x7E] 1 fresh
     s.phase = .scan ∧ s.ptr < s.len ∧ s.input.rst = false ∧
       (after (hostWrites s.input s.dropInput)).isSome = true ∧
       decodeWhole s.cfg (.raw s.fr.esc (s.fr.rc != 0)) [s.ibuf.read s.ptr] = some (.lit 0x41)) := by decide

/-- NestedFormsRunInsideTheStep: a closing frame of class I, a missing and an illegal command, a full slot. -/
theorem meets_NestedFormsRunInsideTheStep :
    (let s := scanAt [0x7E, 0xFF, 0x00, 0x01, 0xB6, 0x11, 0x7E] 6 upFrame
     s.phase = .scan ∧ 4 ≤ s.fr.rc.toNat ∧ s.fr.crc = s.cfg.crcGood ∧
       decodeWhole s.cfg .control [s.fr.ctrl] = some (.iFrame 0 0)) ∧
    decodeWhole Config.std .command ({ upFrame with n := 4 }.commandField.toList) = some (.invalidCommand none) ∧
    decodeWhole Config.std .command ({ upFrame with cmdb := 5 }.commandField.toList) = some (.invalidCommand (some 5)) ∧
    ((drainUDR 0).phase = .drain ∧ (drainUDR 0).win.slot ((drainUDR 0).win.cur + (drainUDR 0).dk) = some .down) := by
  decide

/-- EscapePairIsTwoScanSteps. -/
theorem meets_EscapePairIsTwoScanSteps :
    let s := scanAt [0x7E, 0x7D, 0x5E, 0x7E] 1 fresh
    s.phase = .scan ∧ s.inputs = [] ∧ s.ptr + 1 < s.len ∧ s.fr.esc = false ∧ s.ibuf.read s.ptr = s.cfg.escByte ∧
      s.ibuf.read (s.ptr + 1) = 0x5E ∧ s.cfg.escByte ≠ s.cfg.flagByte ∧ (0x5E : Byte) ≠ s.cfg.flagByte := by decide

/-- EscapePairPlacesOneByte: the second byte last in the buffer, and not. -/
theorem meets_EscapePairPlacesOneByte :
    (scanAt [0x7E, 0x7D, 0x5E] 1 fresh).ptr + 2 = (scanAt [0x7E, 0x7D, 0x5E] 1 fresh).len ∧
    (scanAt [0x7E, 0x7D, 0x5E, 0x7E] 1 fresh).ptr + 2 < (scanAt [0x7E, 0x7D, 0x5E, 0x7E] 1 fresh).len := by decide

/-- FlagAtBoundaryClearsTheFrame, its clause on legal states: SCAN at the opening flag. -/
theorem meets_FlagAtBoundaryClearsTheFrame :
    LegalState (scanAt [0x7E, 0x7E] 0 fresh) ∧ (scanAt [0x7E, 0x7E] 0 fresh).fr.rc = 0 :=
  ⟨{ position := by decide, cursors := by decide, slots := by decide, noTriple := by decide
     closedFrame := by decide, counts := by decide, phases := by decide, errors := by decide
     scanInside := by decide }, by decide⟩

/-- FlagCloseErrors: three raw bytes; four with a bad residue; four bytes with no payload; an illegal command byte. -/
theorem meets_FlagCloseErrors :
    (fresh.feedAll Config.std [1, 2, 3]).rc.toNat < 4 ∧
    (let f := fresh.feedAll Config.std [1, 2, 3, 4]
     4 ≤ f.rc.toNat ∧ f.crc ≠ Config.std.crcGood) ∧
    (let f := fresh.feedAll Config.std [0xFF, 0x00, 0x87, 0xF0]
     4 ≤ f.rc.toNat ∧ f.crc = Config.std.crcGood ∧ f.ctrl.getLsbD 0 = false ∧ f.n.toNat ≤ 4) ∧
    (let f := fresh.feedAll Config.std [0xFF, 0x00, 0x05, 0x92, 0x57]
     4 ≤ f.rc.toNat ∧ f.crc = Config.std.crcGood ∧ f.ctrl.getLsbD 0 = false ∧
       f.cmdb ∉ [Command.up, .down, .right, .left].map Config.std.commandByte) := by decide

/-- FlagCloseDelivers and DataFrameFormPushesOrRaises: UP at n = 5, an RR, no payload byte, an illegal byte. -/
theorem meets_FlagCloseDelivers :
    (4 ≤ upFrame.rc.toNat ∧ upFrame.crc = Config.std.crcGood ∧ Config.std.wf = true ∧ upFrame.ctrl.getLsbD 0 = false ∧
      5 ≤ upFrame.n.toNat ∧ upFrame.cmdb = Config.std.commandByte .up) ∧
    (let f := fresh.feedAll Config.std [0xFF, 0x01, 0x0E, 0xE1]
     4 ≤ f.rc.toNat ∧ f.crc = Config.std.crcGood ∧ f.ctrl.getLsbD 0 = true) := by decide
theorem meets_DataFrameFormPushesOrRaises :
    Config.std.wf = true ∧ (5 ≤ upFrame.n.toNat ∧ upFrame.cmdb = Config.std.commandByte .up) ∧
    { upFrame with n := 4 }.n.toNat ≤ 4 ∧
    (0x00 : Byte) ∉ [Command.up, .down, .right, .left].map Config.std.commandByte := by decide

/-- SupervisoryFormsOnlyReport: each of the four forms. -/
theorem meets_SupervisoryFormsOnlyReport :
    ∀ p ∈ [(Instr.rr 0 0, FrameType.acknowledge), (Instr.rnr 3 7, FrameType.acknowledge),
        (Instr.rej 1 1, FrameType.negativeAcknowledge), (Instr.srej 2 2, FrameType.negativeAcknowledge)],
      ∃ g ∈ [(0 : BitVec 2), 1, 2, 3], ∃ q ∈ [(0 : BitVec 3), 1, 2, 7],
        p ∈ [(Instr.rr g q, FrameType.acknowledge), (Instr.rnr g q, FrameType.acknowledge),
          (Instr.rej g q, FrameType.negativeAcknowledge), (Instr.srej g q, FrameType.negativeAcknowledge)] := by decide

/-- NoFormWritesIbuf, OnlyTheHostWritesIbuf, ReadsGiveTheLastHostWrite: forms and steps that answer a next state, one
with host writes (the same address twice), one busy. -/
theorem meets_NoFormWritesIbuf : ∃ t, exec .up State.reset = .next t := ⟨_, rfl⟩
theorem meets_OnlyTheHostWritesIbuf :
    (let s := { State.reset with inputs := [{ writes := [(2, 9), (2, 0x7E), (65534, 1)] }] }
     (after (step s)).isSome = true ∧ s.ibuf.wf ∧ s.input.writes = [(2, 9)] ++ (2, 0x7E) :: [(65534, 1)]) ∧
    ((drainUDR 0).busy = true ∧ (after (step (drainUDR 0))).isSome = true) := by decide

/-- ErrorEntryWritesOnlyTheError, NoMessageIsNeverRaised: steps that raise codes 1, 4, 5 and 6. -/
theorem meets_ErrorEntryWritesOnlyTheError :
    ([checking [0x00], scanAt [0x7E, 0x01, 0x7E] 2 { fresh with rc := 1 },
      scanAt [0x7E, 0x7E] 1 { upFrame with crc := 0 }, scanAt [0x7E, 0x7E] 1 { upFrame with cmdb := 9 }].map (fun s =>
        (s.busy, s.input.rst, (after (step s)).map (fun t => (t.phase, t.errCode))))) =
      [(true, false, some (.error, 1)), (true, false, some (.error, 4)), (true, false, some (.error, 5)),
       (true, false, some (.error, 6))] := by decide

/-- EventsRecordEveryAppliedCommand, FrameReportsDescribeTheClosedFrame: steps with and without an event, with and
without a report. -/
theorem meets_EventsAndReports :
    ([drainUDR 0, draining Window.empty 0, scanAt [0x7E, 0x7E] 1 upFrame].map (fun s =>
      (after (step s)).map (fun t => (t.out.evValid, t.out.frmValid)))) =
      [some (true, false), some (false, false), some (false, true)] := by decide

/-- EventsRecordEveryAppliedCommand, its first case: a drained slot and an evicted slot, each of whose commands is absorbed
by the clamp at the start position (DOWN at y = 4) and recorded all the same (R205). -/
theorem meets_EventsRecordEveryAppliedCommand :
    ∀ s ∈ [draining ⟨some .down, none, none, 0⟩ 0,
        { scanAt [0x7E, 0x7E] 1 upFrame with win := ⟨some .down, none, none, 0⟩ }],
      releasesCommand .down s ∧
        (after (step s)).map (fun t => (t.y, t.out.evValid, t.out.evCmd, t.out.evChanged)) =
          some (4, true, 2, false) := by
  intro s hs
  fin_cases hs
  · exact ⟨⟨rfl, .inl ⟨rfl, rfl⟩⟩, by decide⟩
  · exact ⟨⟨rfl, .inr ⟨rfl, by decide, by decide, by decide, by decide, by decide, ⟨.up, by decide⟩, rfl⟩⟩, by decide⟩

/-- BusyPhasesFollowTheSequence, ScanReadsEachAddressOnce: CHECK, SCAN inside, at the end and in error, DRAIN with dk
below 2 and at 2, all without RESET and with `start` up in one. -/
theorem meets_BusyPhasesFollowTheSequence :
    ([checking [0x7E], { scanAt [0x7E, 0x7E] 0 fresh with inputs := [{ start := true, len := 7 }] },
      scanAt [0x7E, 0x7E] 1 fresh, scanAt [0x7E, 0x7E] 1 { fresh with rc := 1 }, drainUDR 1, drainUDR 2].map (fun s =>
        (s.busy, s.input.rst, (after (step s)).map (fun t => t.phase)))) =
      [(true, false, some .scan), (true, false, some .scan), (true, false, some .drain), (true, false, some .error),
       (true, false, some .drain), (true, false, some .done)] := by decide

/-- RawByteClassesFollowTheirConditions, DecodeOfEncodeIsTheForm, EncodeOfDecodeIsTheBytes: legal parameters, a
well-formed form of every layer in its layer, and a decode that succeeds. -/
theorem meets_Encodings :
    Config.std.flagByte ≠ Config.std.escByte ∧ Config.std.wf = true ∧
    (∀ p ∈ [(Instr.flagClose, Layer.raw true true), (Instr.escaped 0x7D, Layer.raw true false),
        (Instr.escPair 0xFF, Layer.pair), (Instr.srej 3 7, Layer.control), (Instr.invalidCommand none, Layer.command),
        (Instr.start 65535, Layer.strobe 65535)],
      p.1.wf Config.std = true ∧ p.1.inLayer p.2 = true) ∧
    decodeWhole Config.std (.strobe 65535) [0x01] = some (.start 65535) := by decide

/-- FcsGivesTheGoodResidue, ChangedByteChangesTheResidue, ByteSerialFrameIsTheSliceForm, DestuffingUndoesStuffing. -/
theorem meets_Checksum :
    crcConsistent Config.std = true ∧ Config.std.crcPolyR = 0x8408 ∧ (0x01 : Byte) ≠ 0x00 ∧
    ([0x7D, 0x5E, 0x7D] : List Byte) ≠ [] ∧ (∀ b ∈ ([0x7D, 0x5E, 0x7D] : List Byte), b ≠ Config.std.flagByte) ∧
    Config.std.wf = true := by decide

/-- ProducedDataFrameIsDelivered, ProducedSupervisoryFrameIsSkipped: IFRAME(FF, 0, UP) and RNR(42, 5) with
their FCS bytes as the spec gives them. -/
theorem meets_ProducedFrames :
    ((0x00 : Byte).getLsbD 0 = false ∧
      upFrame = fresh.feedAll Config.std (interior Config.std [0xFF, 0x00, Config.std.commandByte .up])) ∧
    ((0xA5 : Byte).getLsbD 0 = true ∧
      fresh.feedAll Config.std [0x42, 0xA5, 0x36, 0x88] = fresh.feedAll Config.std (interior Config.std [0x42, 0xA5])) ∧
    crcConsistent Config.std = true ∧ Config.std.wf = true := by decide

/-- RunsSuppressEveryThird, CommandWaitsThreePushes: a window whose newest entry differs, and three pushes that clear
nothing. -/
theorem meets_Debouncer :
    (Window.toShift ⟨some .up, some .up, some .down, 0⟩).q0 ≠ some .up ∧ 0 < 1 ∧
    (let w := Window.empty.insert .up
     w.toShift.q0 = some .up ∧ (w.insert .up).toShift.q0 = some .up ∧
       ((w.insert .up).insert .down).toShift.q0 = some .down) := by decide

/-- The invariants are met by a state in SCAN, inside a buffer with flags at both ends and a frame open. -/
theorem scanning_inv : Inv (scanAt [0x7E, 0x41, 0x7E] 2 { fresh with rc := 1, n := 1 }) :=
  { params := by decide
    legal :=
      { position := by decide, cursors := by decide, slots := by decide, noTriple := by decide
        closedFrame := by decide, counts := by decide, phases := by decide, errors := by decide
        scanInside := by decide }
    lenFits := by decide
    checkAtZero := by decide }

theorem scanning_runInv : RunInv (scanAt [0x7E, 0x41, 0x7E] 2 { fresh with rc := 1, n := 1 }) :=
  { flagEnds := by decide, frameClosed := by decide, drainedSlots := by decide, windowEmpty := by decide
    cursorInside := by decide }

/-- ResetStateMeetsTheInvariants, StepKeepsTheInvariants, ReachableStatesAreLegal, StepKeepsTheRunInvariant,
DutifulHostIsNeverStopped, EveryRunEnds, RunIsTheSliceForm: their hypotheses on concrete states. -/
theorem meets_Invariants :
    Config.std.wf = true ∧ Memory.wf (buffer [0x7E, 0x41, 0x7E]) ∧
    (let s := scanAt [0x7E, 0x41, 0x7E] 2 { fresh with rc := 1, n := 1 }
     (after (step s)).isSome = true ∧ s.busy = true ∧ ∀ h ∈ s.inputs, h.rst = false ∧ h.writes = []) ∧
    (after (core.run 3 (starting [0x7E, 0x7E]))).isSome = true := by decide
theorem meets_dutiesKept :
    dutiesKept { State.reset with inputs := [{ writes := [(65534, 0x7E)] }] } ∧ dutiesKept (starting [0x7E]) := by
  constructor <;> refine ⟨?_, ?_⟩ <;> decide

theorem reset_inv : Inv State.reset :=
  { params := by decide
    legal :=
      { position := by decide, cursors := by decide, slots := by decide, noTriple := by decide
        closedFrame := by decide, counts := by decide, phases := by decide, errors := by decide
        scanInside := by decide }
    lenFits := by decide
    checkAtZero := by decide }

/-- An idle machine meets the invariants, whatever the host does next. -/
theorem idle_inv (ins : List HostIn) : Inv { State.reset with inputs := ins } :=
  let ⟨p, ⟨a, b, c, d, e, f, g, h, i⟩, l, k⟩ := reset_inv
  ⟨p, ⟨a, b, c, d, e, f, g, h, i⟩, l, k⟩

/-- DutifulHostIsNeverStopped: all its hypotheses of one state, for a write at the last address of IBUF and for an accepted
START with the largest `len`. -/
theorem meets_DutifulHostIsNeverStopped :
    ∀ ins ∈ [[{ writes := [(65534, 0x7E)] }], [({ start := true, len := 65535 } : HostIn)]],
      Inv { State.reset with inputs := ins } ∧ dutiesKept { State.reset with inputs := ins } := by
  intro ins hs
  refine ⟨idle_inv ins, ?_⟩
  fin_cases hs <;> refine ⟨?_, ?_⟩ <;> decide

/-- StepKeepsTheInvariants, StepKeepsTheRunInvariant, EveryRunEnds: all their hypotheses of one state in SCAN. -/
theorem meets_StepAndRunInvariants :
    let s := scanAt [0x7E, 0x41, 0x7E] 2 { fresh with rc := 1, n := 1 }
    Inv s ∧ RunInv s ∧ (after (step s)).isSome = true ∧ s.busy = true ∧
      ∀ h ∈ s.inputs, h.rst = false ∧ h.writes = [] :=
  ⟨scanning_inv, scanning_runInv, by decide, by decide, by decide⟩

theorem meets_RunIsTheSliceForm :
    let s := starting [0x7E, 0x7E]
    s.busy = false ∧ s.inputs = [{ start := true, len := 2 }] ∧ 2 < 2 ^ s.cfg.lenW ∧ 2 ≤ s.cfg.ibufDepth := by decide

end Sys2Proof.Tests
end

section
/-! SUPPORT. The status flags, what a step begins with, what one SCAN step can do, and the induction over a run. -/

namespace Sys2Proof

/-- The frame type of a control class (R131 to R135). -/
def ControlClass.frameType : ControlClass → FrameType
  | .iFrame _ _ => .data
  | .rr _ _ => .acknowledge
  | .rnr _ _ => .acknowledge
  | .rej _ _ => .negativeAcknowledge
  | .srej _ _ => .negativeAcknowledge

/-- The sequence number of a control class (R77). -/
def ControlClass.seq : ControlClass → BitVec 3
  | .iFrame _ q => q
  | .rr _ q => q
  | .rnr _ q => q
  | .rej _ q => q
  | .srej _ q => q

@[simp] theorem seq_controlClass (b : Byte) : (controlClass b).seq = b.extractLsb' 5 3 := by
  unfold controlClass
  split_ifs <;> rfl

/-- The command byte of a decoded command is the byte it was decoded from. -/
theorem commandByte_of_commandOf {c : Config} {b : Byte} {k : Command} (h : commandOf c b = some k) :
    b = c.commandByte k := by
  unfold commandOf at h
  split_ifs at h <;> cases h <;> assumption

/-- A byte decodes to a command exactly when it is some command's byte. -/
theorem exists_commandOf_iff (c : Config) (b : Byte) :
    (∃ k, commandOf c b = some k) ↔ ∃ k, b = c.commandByte k := by
  constructor
  · rintro ⟨k, h⟩
    exact ⟨k, commandByte_of_commandOf h⟩
  · rintro ⟨k, rfl⟩
    rw [← Option.isSome_iff_exists]
    cases k <;> grind [commandOf, Config.commandByte]

theorem commandClass_eq_valid {c : Config} {field : Option Byte} {k : Command} :
    commandClass c field = .valid k ↔ ∃ b, field = some b ∧ commandOf c b = some k := by
  cases field with
  | none => simp [commandClass]
  | some b => cases h : commandOf c b <;> simp [commandClass, h]

end Sys2Proof

namespace Sys2Proof.Machine

/-! ## Phases and status flags (R38) -/

theorem busy_iff (s : State) : s.busy = true ↔ s.phase = .check ∨ s.phase = .scan ∨ s.phase = .drain := by
  unfold State.busy
  cases s.phase <;> simp

theorem done_iff (s : State) : s.done = true ↔ s.phase = .done := by simp [State.done]

theorem err_iff (s : State) : s.err = true ↔ s.phase = .error := by simp [State.err]

/-- Settles O32: each flag is a test of the phase, and no phase passes two of them. -/
theorem statusPortsFollowThePhase : Obligations.StatusPortsFollowThePhase := by
  intro s
  have hb : s.ports.busy = true ↔ _ := busy_iff s
  have hd : s.ports.done = true ↔ _ := done_iff s
  have he : s.ports.err = true ↔ _ := err_iff s
  refine ⟨hb, hd, he, ?_, ?_, ?_, rfl, rfl, rfl, rfl⟩
  · rw [hb, hd]; cases s.phase <;> simp
  · rw [hb, he]; cases s.phase <;> simp
  · rw [hd, he]; cases s.phase <;> simp

/-! ## Steps and runs -/

/-- The state that the host operation of a step runs on (R221): the input is taken, the host's writes have landed, the
outputs are 0. -/
def State.entered (s : State) : State :=
  { s with inputs := s.inputs.tail, ibuf := s.ibuf.writeAll s.input.writes, out := {} }

/-- `step_cases`, about `State.entered`. -/
theorem step_entered {s t : State} (h : step s = .next t) :
    (s.busy = true → s.entered.ibuf = s.ibuf) ∧
      ((s.input.rst = true ∧ t = resetState s.entered) ∨
       (s.input.rst = false ∧ s.input.start = true ∧ s.busy = false ∧
         t = startRun (lenPort s.cfg s.input.len) s.entered) ∨
       (s.input.rst = false ∧ phaseStep s.entered = .next t)) := by
  obtain ⟨_, rfl, hw, hcases⟩ := step_cases h
  refine ⟨fun hb => by simp [State.entered, hw hb, Memory.writeAll], ?_⟩
  obtain hreset | ⟨hr, hs, hb, _, ht⟩ | ⟨hr, _, hp⟩ := hcases
  · exact .inl hreset
  · exact .inr (.inl ⟨hr, hs, hb, ht⟩)
  · exact .inr (.inr ⟨hr, hp⟩)

/-- A property that every step keeps holds after any run from a state that has it. -/
theorem run_keeps {P : State → Prop} (hstep : ∀ s t, P s → step s = .next t → P t) {k : Nat} {s t : State}
    (hs : P s) (h : core.run k s = .next t) : P t := by
  induction k generalizing s with
  | zero => cases h; exact hs
  | succ k ih =>
    simp only [Host.Core.run] at h
    split at h
    · next u hu => exact ih (hstep s u hs hu) h
    · cases h
    · cases h

/-! ## The close of a frame -/

/-- R130's classifier, which reads bits 0 and 3, agrees with the masks of R76. -/
@[simp] theorem frameType_controlClass : ∀ b : Byte, (controlClass b).frameType = classifyType b := by
  decide

theorem classifyType_eq_data (b : Byte) : classifyType b = .data ↔ b.getLsbD 0 = false := by
  unfold classifyType
  split_ifs <;> simp_all

/-- The next step, unless it is a RESET, reads the flag that closes a frame which passes its length and checksum checks
(R127). -/
def State.closesGoodFrame (s : State) : Prop :=
  s.phase = .scan ∧ s.ibuf.read s.ptr = s.cfg.flagByte ∧ 4 ≤ s.fr.rc.toNat ∧ s.fr.crc = s.cfg.crcGood

/-- The frame, closed, is a Data frame with the command `k` (R130, R136, R157). -/
def Frame.carries (cfg : Config) (f : Frame) (k : Command) : Prop :=
  classifyType f.ctrl = .data ∧ commandClass cfg f.commandField = .valid k

/-- `s` with the report of its frame (R127). -/
def State.reported (s : State) : State := report (classifyType s.fr.ctrl) (s.fr.ctrl.extractLsb' 5 3) s

theorem exists_carries_iff (cfg : Config) (f : Frame) :
    (∃ k, f.carries cfg k) ↔
      f.ctrl.getLsbD 0 = false ∧ 5 ≤ f.n.toNat ∧ ∃ c, f.cmdb = cfg.commandByte c := by
  have hn : 5#3 ≤ f.n ↔ 5 ≤ f.n.toNat := Iff.rfl
  simp only [Frame.carries, classifyType_eq_data, commandClass_eq_valid, Frame.commandField, hn,
    ← exists_commandOf_iff]
  by_cases h5 : 5 ≤ f.n.toNat <;> simp [h5]

/-- A control class closes as a Data frame or as a supervisory one, after the report of its type and sequence number. -/
theorem closeClass_eq (k : ControlClass) (s : State) :
    closeClass k s =
      if k.frameType = .data then dataOutcome (report k.frameType k.seq s) else .goes (report k.frameType k.seq s) := by
  cases k <;> rfl

theorem closeClass_controlClass (s : State) :
    closeClass (controlClass s.fr.ctrl) s =
      if classifyType s.fr.ctrl = .data then dataOutcome s.reported else .goes s.reported := by
  rw [closeClass_eq, frameType_controlClass, seq_controlClass]
  rfl

/-- The three outcomes of a frame that passed its checks. -/
theorem closeClass_outcomes (s : State) :
    (∃ k, s.fr.carries s.cfg k ∧ closeClass (controlClass s.fr.ctrl) s = .goes (push k s.reported)) ∨
    ((∀ k, ¬s.fr.carries s.cfg k) ∧
      (closeClass (controlClass s.fr.ctrl) s = .goes s.reported ∨
       closeClass (controlClass s.fr.ctrl) s = .raised (raiseError .invalidCommand s.reported))) := by
  by_cases hd : classifyType s.fr.ctrl = .data
  · rw [closeClass_controlClass, if_pos hd]
    obtain ⟨k, hk, ho⟩ | ⟨f, hf, ho⟩ := dataOutcome_cases s.reported
    · exact .inl ⟨k, ⟨hd, hk⟩, ho⟩
    · exact .inr ⟨fun k hk => (nomatch hf.symm.trans hk.2), .inr ho⟩
  · rw [closeClass_controlClass, if_neg hd]
    exact .inr ⟨fun k hk => hd hk.1, .inl rfl⟩

/-! ## One SCAN step -/

section
variable {cfg : Config} {f : Frame} {b : Byte}

theorem feed_flag (hb : b = cfg.flagByte) : f.feed cfg b = Frame.fresh cfg := by
  simp only [Frame.feed, rawClass, if_pos hb]
  cases f.rc != 0 <;> rfl

theorem feed_escaped (hb : b ≠ cfg.flagByte) (he : f.esc = true) : f.feed cfg b = f.escaped cfg b := by
  simp [Frame.feed, rawClass, hb, he]

theorem feed_escape (hb : b ≠ cfg.flagByte) (he : f.esc = false) (hbe : b = cfg.escByte) :
    f.feed cfg b = f.escape := by
  simp only [Frame.feed, rawClass, if_neg hb, he, Bool.false_eq_true, if_false, if_pos hbe]

theorem feed_literal (hb : b ≠ cfg.flagByte) (he : f.esc = false) (hbe : b ≠ cfg.escByte) :
    f.feed cfg b = f.literal cfg b := by
  simp [Frame.feed, rawClass, hb, he, hbe]

end

/-- Everything that one SCAN step inside the buffer can do (R153). -/
inductive ScanOutcome (s : State) : State → Prop
  /-- The byte goes into the frame registers, and the cursor moves on. -/
  | reads (hc : ¬s.closesGoodFrame) :
      ScanOutcome s (advance { s with fr := s.fr.feed s.cfg (s.ibuf.read s.ptr) })
  /-- A flag closes a frame that fails a check (R128, R129). -/
  | fails (e : ErrorKind) (he : e = .tooShort ∨ e = .checksumInvalid) (hc : ¬s.closesGoodFrame) :
      ScanOutcome s (raiseError e s)
  /-- A good Data frame's command is pushed (R157). -/
  | delivers (k : Command) (hc : s.closesGoodFrame) (hk : s.fr.carries s.cfg k) :
      ScanOutcome s (advance (frameReset (push k s.reported)))
  /-- A good frame carries no command and is skipped (R159). -/
  | skips (hc : s.closesGoodFrame) (hk : ∀ k, ¬s.fr.carries s.cfg k) :
      ScanOutcome s (advance (frameReset s.reported))
  /-- A good Data frame's command field is illegal (R158). -/
  | refuses (hc : s.closesGoodFrame) (hk : ∀ k, ¬s.fr.carries s.cfg k) :
      ScanOutcome s (raiseError .invalidCommand s.reported)

theorem tooShort_eq_false (f : Frame) : f.tooShort = false ↔ 4 ≤ f.rc.toNat :=
  decide_eq_false_iff_not.trans Nat.not_lt

/-- A closing flag fails a check or delivers, skips or refuses a good frame. -/
theorem scanOutcome_closeFrame {s : State} (hp : s.phase = .scan) (hb : s.ibuf.read s.ptr = s.cfg.flagByte) :
    ScanOutcome s ((closeFrame s).finish (fun t => advance (frameReset t))) := by
  obtain ⟨hs, e⟩ | ⟨_, hcrc, e⟩ | ⟨hs, hcrc, e⟩ := closeFrame_cases s <;> rw [e]
  · refine .fails .tooShort (.inl rfl) fun ⟨_, _, h4, _⟩ => ?_
    simp [(tooShort_eq_false s.fr).2 h4] at hs
  · exact .fails .checksumInvalid (.inr rfl) fun ⟨_, _, _, h⟩ => hcrc h
  · have hc : s.closesGoodFrame := ⟨hp, hb, (tooShort_eq_false s.fr).1 hs, hcrc⟩
    obtain ⟨k, hk, e⟩ | ⟨hk, e | e⟩ := closeClass_outcomes s <;> rw [e]
    · exact .delivers k hc hk
    · exact .skips hc hk
    · exact .refuses hc hk

/-- The step of the byte that SCAN reads has one of these outcomes. -/
theorem scanOutcome_execRaw {s t : State} (hp : s.phase = .scan) (h : execRaw s.rawClass s = .next t) :
    ScanOutcome s t := by
  have reads (hc : ¬s.closesGoodFrame) {g : Frame} (hg : s.fr.feed s.cfg (s.ibuf.read s.ptr) = g) :
      ScanOutcome s (advance { s with fr := g }) := hg ▸ .reads hc
  have notFlag (hb : s.ibuf.read s.ptr ≠ s.cfg.flagByte) : ¬s.closesGoodFrame := fun hc => hb hc.2.1
  obtain ⟨hb, hrc, rfl⟩ | ⟨hb, _, rfl⟩ | ⟨hb, he, rfl⟩ | ⟨hb, he, hbe, rfl⟩ | ⟨hb, he, hbe, rfl⟩ := execRaw_next h
  · exact reads (fun ⟨_, _, h4, _⟩ => by simp [hrc] at h4) (feed_flag hb)
  · exact scanOutcome_closeFrame hp hb
  · exact reads (notFlag hb) (feed_escaped hb he)
  · exact reads (notFlag hb) (feed_escape hb he hbe)
  · exact reads (notFlag hb) (feed_literal hb he hbe)

/-- `phaseStep_next`, with the outcomes of a SCAN step. -/
theorem phaseStep_outcomes {s t : State} (h : phaseStep s = .next t) :
    ((s.phase = .idle ∨ s.phase = .done ∨ s.phase = .error) ∧ t = s) ∨
    (s.phase = .check ∧ t = checkBuffer s) ∨
    (s.phase = .scan ∧ s.ptr < s.len ∧ ScanOutcome s t) ∨
    (s.phase = .drain ∧ t = drainStep s) := by
  obtain hhold | hcheck | ⟨hp, hl, hx⟩ | hdrain := phaseStep_next h
  · exact .inl hhold
  · exact .inr (.inl hcheck)
  · exact .inr (.inr (.inl ⟨hp, hl, scanOutcome_execRaw hp hx⟩))
  · exact .inr (.inr (.inr hdrain))

end Sys2Proof.Machine
end

section
/-! SUPPORT. The event and frame report registers (spec R36, R37): what a step releases, and what it reports. -/

namespace Sys2Proof.Machine

/-! ## What the phase's own step releases -/

/-- Releasing a slot is `emitSlot`, and depends on the position and the event registers only. -/
theorem releasedSlot_of_emitSlot {o : Option Command} {s t : State} (hp : samePosition (emitSlot o s) t)
    (he : sameEvent (emitSlot o s) t) : releasedSlot o s t := by
  cases o with
  | none => exact ⟨hp, he⟩
  | some k =>
    obtain ⟨hx, hy⟩ := hp
    obtain ⟨hv, hc, hch⟩ := he
    exact ⟨Prod.ext hx hy, hv, hc, by simp [hx, hy, hch]⟩

theorem drainStep_releases (s : State) : releasedSlot (s.win.slot (s.win.cur + s.dk)) s (drainStep s) := by
  apply releasedSlot_of_emitSlot <;> unfold drainStep <;> dsimp only <;> split_ifs
  · exact ⟨rfl, rfl⟩
  · exact ⟨rfl, rfl⟩
  · exact ⟨rfl, rfl, rfl⟩
  · exact ⟨rfl, rfl, rfl⟩

/-- The closing flag that delivers a command releases the oldest entry, as the push says (R181). -/
theorem deliver_releases (k : Command) (s : State) :
    releasedSlot s.win.oldest s (advance (frameReset (push k s.reported))) := by
  have hr : s.reported.win = s.win := rfl
  apply releasedSlot_of_emitSlot
  · constructor <;> simp only [advance_x, advance_y, frameReset_x, frameReset_y, push_x, push_y, hr] <;>
      cases s.win.oldest <;> rfl
  · simp only [sameEvent, advance_out, frameReset_out, push_out, hr]
    cases s.win.oldest <;> exact ⟨rfl, rfl, rfl⟩

/-- CHECK writes the sequencer only (R150). -/
theorem checkBuffer_keeps (s : State) :
    (checkBuffer s).out = s.out ∧ samePosition s (checkBuffer s) := by
  obtain ⟨_, e⟩ | ⟨_, _, e⟩ | ⟨_, _, _, e⟩ | ⟨_, _, _, e⟩ := checkBuffer_cases s <;> rw [e] <;>
    exact ⟨rfl, rfl, rfl⟩

/-- The phase's own step releases the command `k`: `releasesCommand` less the condition that the step is no RESET. -/
def State.releases (s : State) (k : Command) : Prop :=
  (s.phase = .drain ∧ s.win.slot (s.win.cur + s.dk) = some k) ∨
    (s.closesGoodFrame ∧ (∃ c, s.fr.carries s.cfg c) ∧ s.win.oldest = some k)

theorem releasesCommand_iff (k : Command) (s : State) :
    releasesCommand k s ↔ s.input.rst = false ∧ s.releases k := by
  simp only [releasesCommand, State.releases, State.closesGoodFrame, exists_carries_iff, Window.oldest, and_assoc]

theorem releases_of_scan {s : State} (hp : s.phase = .scan) (k : Command) :
    s.releases k ↔ s.closesGoodFrame ∧ (∃ c, s.fr.carries s.cfg c) ∧ s.win.oldest = some k := by
  simp [State.releases, hp]

theorem releases_of_drain {s : State} (hp : s.phase = .drain) (k : Command) :
    s.releases k ↔ s.win.slot (s.win.cur + s.dk) = some k := by
  simp [State.releases, State.closesGoodFrame, hp]

theorem not_releases {s : State} (hs : s.phase ≠ .scan) (hd : s.phase ≠ .drain) (k : Command) : ¬s.releases k := by
  simp [State.releases, State.closesGoodFrame, hs, hd]

/-- A step that keeps position and events, and has nothing to release, releases the empty slot. -/
theorem releases_nothing {s t : State} (hp : samePosition s t) (he : sameEvent s t) (hn : ∀ k, ¬s.releases k) :
    ∃ o, releasedSlot o s t ∧ ∀ k, s.releases k ↔ o = some k :=
  ⟨none, ⟨hp, he⟩, fun k => by simp [hn k]⟩

theorem scanOutcome_releases {s t : State} (hp : s.phase = .scan) (h : ScanOutcome s t) :
    ∃ o, releasedSlot o s t ∧ ∀ k, s.releases k ↔ o = some k := by
  have notGood (hc : ¬s.closesGoodFrame) (k : Command) : ¬s.releases k := by simp [releases_of_scan hp, hc]
  have noCommand (hk : ∀ k, ¬s.fr.carries s.cfg k) (k : Command) : ¬s.releases k := by
    simp [releases_of_scan hp, hk]
  cases h with
  | reads hc => exact releases_nothing (by simp [samePosition]) (by simp [sameEvent]) (notGood hc)
  | fails _ _ hc => exact releases_nothing ⟨rfl, rfl⟩ ⟨rfl, rfl, rfl⟩ (notGood hc)
  | delivers k hc hk => exact ⟨_, deliver_releases k s, fun k' => by simp [releases_of_scan hp, hc, Exists.intro k hk]⟩
  | skips _ hk =>
    exact releases_nothing (by simp [samePosition, State.reported]) (by simp [sameEvent, State.reported]) (noCommand hk)
  | refuses _ hk => exact releases_nothing ⟨rfl, rfl⟩ ⟨rfl, rfl, rfl⟩ (noCommand hk)

/-- The phase's own step releases at most one slot: the one that `State.releases` names. -/
theorem phaseStep_releases {s t : State} (h : phaseStep s = .next t) :
    ∃ o, releasedSlot o s t ∧ ∀ k, s.releases k ↔ o = some k := by
  obtain ⟨hp, rfl⟩ | ⟨hp, rfl⟩ | ⟨hp, _, ho⟩ | ⟨hp, rfl⟩ := phaseStep_outcomes h
  · refine releases_nothing ⟨rfl, rfl⟩ ⟨rfl, rfl, rfl⟩ (not_releases ?_ ?_) <;>
      obtain hp | hp | hp := hp <;> simp [hp]
  · obtain ⟨ho, hxy⟩ := checkBuffer_keeps s
    exact releases_nothing hxy (by simp [sameEvent, ho]) (not_releases (by simp [hp]) (by simp [hp]))
  · exact scanOutcome_releases hp ho
  · exact ⟨_, drainStep_releases s, fun k => releases_of_drain hp k⟩

/-! ## What the phase's own step reports -/

theorem sameReport_emitSlot (o : Option Command) (s : State) : sameReport s (emitSlot o s) := by
  cases o <;> exact ⟨rfl, rfl, rfl, rfl⟩

theorem sameReport_drainStep (s : State) : sameReport s (drainStep s) := by
  have h := sameReport_emitSlot (s.win.slot (s.win.cur + s.dk)) s
  unfold drainStep
  dsimp only
  split_ifs <;> exact h

/-- `t` shows the report of the frame that `s` closes (R127, R130). -/
def reportsClosedFrame (s t : State) : Prop :=
  reportsFrame (frameTypeCode (classifyType s.fr.ctrl)) (s.fr.ctrl.extractLsb' 5 3) s t

/-- A good frame is reported whatever becomes of its command (R158 and R159 keep the report). -/
theorem reportsClosedFrame_of_sameReport {s t : State} (h : sameReport s.reported t) : reportsClosedFrame s t := h

theorem scanOutcome_reports {s t : State} (h : ScanOutcome s t) :
    (s.closesGoodFrame ∧ reportsClosedFrame s t) ∨ (¬s.closesGoodFrame ∧ sameReport s t) := by
  cases h with
  | reads hc => exact .inr ⟨hc, by simp [sameReport]⟩
  | fails _ _ hc => exact .inr ⟨hc, rfl, rfl, rfl, rfl⟩
  | delivers k hc _ =>
    refine .inl ⟨hc, reportsClosedFrame_of_sameReport ?_⟩
    simpa [sameReport] using sameReport_emitSlot s.reported.win.oldest s.reported
  | skips hc _ => exact .inl ⟨hc, reportsClosedFrame_of_sameReport (by simp [sameReport])⟩
  | refuses hc _ => exact .inl ⟨hc, reportsClosedFrame_of_sameReport ⟨rfl, rfl, rfl, rfl⟩⟩

/-- The phase's own step reports a frame exactly if it closes a good one. -/
theorem phaseStep_reports {s t : State} (h : phaseStep s = .next t) :
    (s.closesGoodFrame ∧ reportsClosedFrame s t) ∨ (¬s.closesGoodFrame ∧ sameReport s t) := by
  have notScan (hp : s.phase ≠ .scan) : ¬s.closesGoodFrame := fun hc => hp hc.1
  obtain ⟨hp, rfl⟩ | ⟨hp, rfl⟩ | ⟨_, _, ho⟩ | ⟨hp, rfl⟩ := phaseStep_outcomes h
  · exact .inr ⟨notScan (by obtain hp | hp | hp := hp <;> simp [hp]), rfl, rfl, rfl, rfl⟩
  · exact .inr ⟨notScan (by simp [hp]), by simp [sameReport, (checkBuffer_keeps s).1]⟩
  · exact scanOutcome_reports ho
  · exact .inr ⟨notScan (by simp [hp]), sameReport_drainStep s⟩

/-! ## From the phase's own step to the step -/

theorem not_busy_not_closesGoodFrame {s : State} (h : s.busy = false) : ¬s.closesGoodFrame :=
  fun hc => by simp [(busy_iff s).2 (.inr (.inl hc.1))] at h

theorem not_busy_not_releases {s : State} (h : s.busy = false) (k : Command) : ¬s.releases k := by
  rintro (⟨hp, _⟩ | ⟨hc, _⟩)
  · simp [(busy_iff s).2 (.inr (.inr hp))] at h
  · exact not_busy_not_closesGoodFrame h hc

/-- The host's IBUF writes do not change what a SCAN step reads, since there are none while busy (R53). -/
theorem closesGoodFrame_entered {s : State} (h : s.busy = true → s.entered.ibuf = s.ibuf) :
    s.entered.closesGoodFrame ↔ s.closesGoodFrame := by
  refine and_congr_right fun hp => ?_
  rw [h ((busy_iff s).2 (.inr (.inl hp)))]
  rfl

theorem releases_entered {s : State} (h : s.busy = true → s.entered.ibuf = s.ibuf) (k : Command) :
    s.entered.releases k ↔ s.releases k :=
  or_congr Iff.rfl (and_congr_left' (closesGoodFrame_entered h))

/-- Settles O28: the command of the released slot, if any, is the step's whole effect on position and events. -/
theorem eventsRecordEveryAppliedCommand : Obligations.EventsRecordEveryAppliedCommand := by
  intro s t h
  simp only [releasesCommand_iff]
  obtain ⟨hibuf, ⟨hr, rfl⟩ | ⟨hr, hs, hb, rfl⟩ | ⟨hr, hp⟩⟩ := step_entered h
  · exact .inr ⟨by simp [hr], rfl, rfl, rfl, by simp [hr]⟩
  · exact .inr ⟨by simp [not_busy_not_releases hb], rfl, rfl, rfl, by simp [hs, hb]⟩
  · obtain ⟨o, ho, hrel⟩ := phaseStep_releases hp
    simp only [releases_entered hibuf] at hrel
    cases o with
    | none =>
      obtain ⟨hxy, hv, hc, hch⟩ := ho
      exact .inr ⟨by simp [hrel], hv, hc, hch, fun _ _ => hxy⟩
    | some k => exact .inl ⟨k, ⟨hr, (hrel k).2 rfl⟩, ho⟩

/-- Settles O29: RESET and START leave the report registers at 0, and the phase's own step writes them only when it
closes a good frame. -/
theorem frameReportsDescribeTheClosedFrame : Obligations.FrameReportsDescribeTheClosedFrame := by
  intro s t h
  obtain ⟨hibuf, ⟨hr, rfl⟩ | ⟨_, _, hb, rfl⟩ | ⟨hr, hp⟩⟩ := step_entered h
  · exact .inr ⟨by simp [hr], rfl, rfl, rfl, rfl⟩
  · exact .inr ⟨fun ⟨hscan, _, hrest⟩ => not_busy_not_closesGoodFrame hb ⟨hscan, hrest⟩, rfl, rfl, rfl, rfl⟩
  · obtain ⟨hc, hrep⟩ | ⟨hc, hsame⟩ := phaseStep_reports hp <;> rw [closesGoodFrame_entered hibuf] at hc
    · obtain ⟨hscan, hflag, hrc, hcrc⟩ := hc
      exact .inl ⟨hscan, hr, hflag, hrc, hcrc, hrep⟩
    · exact .inr ⟨fun ⟨hscan, _, hrest⟩ => hc ⟨hscan, hrest⟩, hsame⟩

end Sys2Proof.Machine
end

section
/-! SUPPORT. The invariants of R40: each part of `Inv` with the operations that keep it, then one rule per operation of
the state, up to the step. -/

namespace Sys2Proof.Machine

/-! ## The parts of the invariant -/

/-- R40 item 1. -/
def OnGrid (x y : BitVec 3) : Prop := x ≤ 4#3 ∧ y ≤ 4#3

/-- R40 item 4. -/
def Window.NoTriple (w : Window) : Prop := triple w.slot0 w.slot1 w.slot2 = false

/-- R40 items 5 and 6. -/
def Frame.Legal (cfg : Config) (f : Frame) : Prop := (f.rc = 0 → f = Frame.fresh cfg) ∧ f.n ≤ f.rc

/-- R40 items 8 and 9, with what `Inv` adds about LEN and CHECK. -/
structure SequencerLegal (lenW : Nat) (phase : Phase) (len ptr : Nat) (errCode : BitVec 3) : Prop where
  errors : errCode ≠ 0 ↔ phase = .error
  scanInside : phase = .scan → ptr < len
  lenFits : len < 2 ^ lenW
  checkAtZero : phase = .check → ptr = 0

/-! ## Position (R200) -/

theorem stepAxis_le (v : BitVec 3) (delta : Int) : stepAxis v delta ≤ 4#3 := by
  have h0 : 0 ≤ clamp (v.toNat + delta) := by simp [clamp, Config.gridMax]
  have h4 : clamp (v.toNat + delta) ≤ 4 := min_le_right _ _
  unfold stepAxis
  generalize clamp (v.toNat + delta) = i at h0 h4
  interval_cases i <;> decide

theorem onGrid_moved {x y : BitVec 3} (h : OnGrid x y) (k : Command) : OnGrid (moved k x y).1 (moved k x y).2 := by
  obtain ⟨hx, hy⟩ := h
  cases k with
  | up => exact ⟨hx, stepAxis_le _ _⟩
  | down => exact ⟨hx, stepAxis_le _ _⟩
  | right => exact ⟨stepAxis_le _ _, hy⟩
  | left => exact ⟨stepAxis_le _ _, hy⟩

theorem onGrid_start : OnGrid Config.startX Config.startY := by unfold OnGrid; decide

/-! ## Window (R180 to R183) -/

theorem noTriple_empty : Window.empty.NoTriple := rfl

theorem noTriple_setSlot_none (w : Window) (i : Fin 3) : (w.setSlot i none).NoTriple := by
  rw [Window.NoTriple, ← Bool.not_eq_true, triple_iff]
  fin_cases i <;> simp [Window.setSlot]

theorem noTriple_insert (w : Window) (k : Command) : (w.insert k).NoTriple := by
  unfold Window.insert
  dsimp only
  split_ifs with h
  · rfl
  · exact Bool.eq_false_iff.2 h

/-- Every slot code is at most 4 when the command bytes are legal (R40 item 3, R82). -/
theorem slotCode_le {c : Config} (h : c.wf = true) (o : Option Command) : slotCode c o ≤ 4#3 := by
  have hrange : ∀ b : Byte, Config.inCommandRange b = true → b.setWidth 3 ≤ 4#3 := by decide
  simp only [Config.wf, Bool.and_eq_true] at h
  match o with
  | none => exact (by decide : 0#3 ≤ 4#3)
  | some .up => exact hrange _ (by tauto)
  | some .down => exact hrange _ (by tauto)
  | some .right => exact hrange _ (by tauto)
  | some .left => exact hrange _ (by tauto)

/-! ## Frame registers (R120 to R125) -/

theorem satInc_ne_zero : ∀ v : BitVec 3, satInc v ≠ 0 := by decide

theorem satInc_le_satInc : ∀ {v w : BitVec 3}, v ≤ w → satInc v ≤ satInc w := by decide

theorem le_satInc : ∀ {v w : BitVec 3}, v ≤ w → v ≤ satInc w := by decide

theorem legal_fresh (cfg : Config) : (Frame.fresh cfg).Legal cfg := ⟨fun _ => rfl, BitVec.le_refl _⟩

/-- A frame whose last byte was counted is open, so only its counters matter. -/
theorem legal_of_counted {cfg : Config} {f g : Frame} (hrc : g.rc = satInc f.rc) (hn : g.n ≤ satInc f.rc) :
    g.Legal cfg :=
  ⟨fun h => absurd (hrc ▸ h) (satInc_ne_zero _), hrc ▸ hn⟩

theorem legal_feed {cfg : Config} {f : Frame} (h : f.Legal cfg) (b : Byte) : (f.feed cfg b).Legal cfg := by
  obtain ⟨_, hn⟩ := h
  unfold Frame.feed
  split
  · exact legal_fresh cfg
  · exact legal_fresh cfg
  · exact legal_of_counted rfl (le_satInc hn)
  · exact legal_of_counted rfl (satInc_le_satInc hn)
  · exact legal_of_counted rfl (satInc_le_satInc hn)

/-! ## One rule per operation -/

theorem phase_code_le (p : Phase) : p.code ≤ 5#3 := by cases p <;> decide

/-- `Inv` is its parts: items 2, 3 and 7 hold of every state with legal parameters. -/
theorem inv_iff (s : State) :
    Inv s ↔ s.cfg.wf = true ∧ OnGrid s.x s.y ∧ s.win.NoTriple ∧ s.fr.Legal s.cfg ∧
      SequencerLegal s.cfg.lenW s.phase s.len s.ptr s.errCode := by
  constructor
  · intro ⟨hc, h, hl, h0⟩
    exact ⟨hc, h.position, h.noTriple, ⟨h.closedFrame, h.counts⟩, ⟨h.errors, h.scanInside, hl, h0⟩⟩
  · intro ⟨hc, hg, hw, ⟨hclosed, hn⟩, ⟨herr, hscan, hl, h0⟩⟩
    exact
      { params := hc
        legal :=
          { position := hg, cursors := ⟨by omega, by omega⟩, slots := fun i => slotCode_le hc _, noTriple := hw
            closedFrame := hclosed, counts := hn, phases := phase_code_le _, errors := herr, scanInside := hscan }
        lenFits := hl
        checkAtZero := h0 }

section
variable {s : State}

theorem inv_resetWith {c : Config} (hc : c.wf = true) (m : Memory) (ins : List HostIn) :
    Inv (State.resetWith c m ins) :=
  (inv_iff _).2 ⟨hc, onGrid_start, noTriple_empty, legal_fresh c,
    ⟨by simp [State.resetWith], nofun, Nat.two_pow_pos _, nofun⟩⟩

theorem Inv.entered (h : Inv s) : Inv s.entered := (inv_iff _).2 ((inv_iff s).1 h)

theorem Inv.reported (h : Inv s) : Inv s.reported := (inv_iff _).2 ((inv_iff s).1 h)

theorem Inv.setFrame (h : Inv s) {f : Frame} (hf : f.Legal s.cfg) : Inv { s with fr := f } :=
  let ⟨hc, hg, hw, _, hq⟩ := (inv_iff s).1 h
  (inv_iff _).2 ⟨hc, hg, hw, hf, hq⟩

theorem Inv.setWindow (h : Inv s) {w : Window} (hw : w.NoTriple) : Inv { s with win := w } :=
  let ⟨hc, hg, _, hf, hq⟩ := (inv_iff s).1 h
  (inv_iff _).2 ⟨hc, hg, hw, hf, hq⟩

/-- The sequencer registers other than `dk`, which `Inv` does not bound beyond its type, may be written to any legal
values. -/
theorem Inv.setSequencer (h : Inv s) {p : Phase} {len ptr : Nat} {e : BitVec 3} (dk : Fin 3)
    (hq : SequencerLegal s.cfg.lenW p len ptr e) :
    Inv { s with phase := p, len := len, ptr := ptr, dk := dk, errCode := e } :=
  let ⟨hc, hg, hw, hf, _⟩ := (inv_iff s).1 h
  (inv_iff _).2 ⟨hc, hg, hw, hf, hq⟩

theorem Inv.sequencer (h : Inv s) : SequencerLegal s.cfg.lenW s.phase s.len s.ptr s.errCode :=
  ⟨h.legal.errors, h.legal.scanInside, h.lenFits, h.checkAtZero⟩

theorem Inv.frame (h : Inv s) : s.fr.Legal s.cfg := ⟨h.legal.closedFrame, h.legal.counts⟩

theorem Inv.errCode_eq_zero (h : Inv s) (hp : s.phase ≠ .error) : s.errCode = 0 :=
  not_not.1 (mt h.legal.errors.1 hp)

theorem Inv.emitSlot (h : Inv s) (o : Option Command) : Inv (emitSlot o s) := by
  cases o with
  | none => exact h
  | some k =>
    obtain ⟨hc, hg, hw, hf, hq⟩ := (inv_iff s).1 h
    exact (inv_iff _).2 ⟨hc, onGrid_moved hg k, hw, hf, hq⟩

theorem Inv.push (h : Inv s) (k : Command) : Inv (push k s) :=
  (h.emitSlot s.win.oldest).setWindow (noTriple_insert _ k)

theorem Inv.frameReset (h : Inv s) : Inv (frameReset s) := h.setFrame (legal_fresh s.cfg)

theorem Inv.raiseError (h : Inv s) (e : ErrorKind) : Inv (raiseError e s) :=
  h.setSequencer s.dk ⟨by cases e <;> simp [ErrorKind.code], nofun, h.lenFits, nofun⟩

theorem Inv.enterDrain (h : Inv s) (he : s.phase ≠ .error) : Inv (enterDrain s) :=
  h.setSequencer 0 ⟨by simp [h.errCode_eq_zero he], nofun, h.lenFits, nofun⟩

theorem Inv.advance (h : Inv s) (hp : s.phase = .scan) : Inv (advance s) := by
  have he := h.errCode_eq_zero (by simp [hp])
  have hin := h.legal.scanInside hp
  unfold Machine.advance
  dsimp only
  split_ifs with hend
  · exact h.setSequencer 0 ⟨by simp [he], nofun, h.lenFits, nofun⟩
  · exact h.setSequencer s.dk ⟨by simp [he, hp], fun _ => by omega, h.lenFits, by simp [hp]⟩

theorem Inv.resetState (h : Inv s) : Inv (resetState s) := inv_resetWith h.params s.ibuf s.inputs

theorem Inv.startRun (h : Inv s) {len : Nat} (hl : len < 2 ^ s.cfg.lenW) : Inv (startRun len s) :=
  (inv_iff _).2 ⟨h.params, onGrid_start, noTriple_empty, legal_fresh s.cfg, ⟨by simp, nofun, hl, fun _ => rfl⟩⟩

theorem lenPort_lt (cfg : Config) (len : Nat) : lenPort cfg len < 2 ^ cfg.lenW :=
  Nat.mod_lt _ (Nat.two_pow_pos _)

theorem Inv.checkBuffer (h : Inv s) (hp : s.phase = .check) : Inv (checkBuffer s) := by
  have hne : s.phase ≠ .error := by simp [hp]
  obtain ⟨_, e⟩ | ⟨_, _, e⟩ | ⟨_, _, _, e⟩ | ⟨hlen, _, _, e⟩ := checkBuffer_cases s <;> rw [e]
  · exact h.enterDrain hne
  · exact h.raiseError .noStartFlag
  · exact h.raiseError .noEndFlag
  · have h0 := h.checkAtZero hp
    exact h.setSequencer s.dk ⟨by simp [h.errCode_eq_zero hne], fun _ => by omega, h.lenFits, nofun⟩

theorem Inv.drainStep (h : Inv s) (hp : s.phase = .drain) : Inv (drainStep s) := by
  have he := h.errCode_eq_zero (by simp [hp])
  have hr := (h.emitSlot (s.win.slot (s.win.cur + s.dk))).setWindow
    (noTriple_setSlot_none s.win (s.win.cur + s.dk))
  unfold Machine.drainStep
  dsimp only
  split_ifs
  · exact hr.setSequencer (p := .done) _ ⟨by simp [he], nofun, hr.lenFits, nofun⟩
  · exact hr.setSequencer (s.dk + 1) hr.sequencer

theorem Inv.scanOutcome (h : Inv s) (hp : s.phase = .scan) {t : State} (ho : ScanOutcome s t) : Inv t := by
  cases ho with
  | reads => exact (h.setFrame (legal_feed h.frame _)).advance hp
  | fails e => exact h.raiseError e
  | delivers k => exact (h.reported.push k).frameReset.advance (by simpa [State.reported] using hp)
  | skips => exact h.reported.frameReset.advance hp
  | refuses => exact h.reported.raiseError .invalidCommand

theorem Inv.phaseStep (h : Inv s) {t : State} (hstep : phaseStep s = .next t) : Inv t := by
  obtain ⟨_, rfl⟩ | ⟨hp, rfl⟩ | ⟨hp, _, ho⟩ | ⟨hp, rfl⟩ := phaseStep_outcomes hstep
  · exact h
  · exact h.checkBuffer hp
  · exact h.scanOutcome hp ho
  · exact h.drainStep hp

end

/-- `Inv` is inductive: every step keeps it, whatever the host does. -/
theorem inv_step (s t : State) (h : Inv s) (hstep : step s = .next t) : Inv t := by
  obtain ⟨_, ⟨_, rfl⟩ | ⟨_, _, _, rfl⟩ | ⟨_, hp⟩⟩ := step_entered hstep
  · exact h.entered.resetState
  · exact h.entered.startRun (lenPort_lt s.cfg _)
  · exact h.entered.phaseStep hp

/-- Settles O50: `Inv` holds after RESET and every step keeps it. -/
theorem reachableStatesAreLegal : Obligations.ReachableStatesAreLegal := by
  intro c m ins k t hc h
  exact (run_keeps inv_step (inv_resetWith hc m ins) h).legal

end Sys2Proof.Machine
end

section
/-! SUPPORT. What the block's own operations leave to the host (R51, R53): the parameters, the inputs to come, IBUF. -/

namespace Sys2Proof.Machine

/-- `t` has the parameters, the inputs to come and the IBUF of `s`: `sameWorld` with IBUF equal as a memory, not only
read for read. -/
def sameHostSide (s t : State) : Prop := t.cfg = s.cfg ∧ t.inputs = s.inputs ∧ t.ibuf = s.ibuf

theorem sameHostSide_checkBuffer (s : State) : sameHostSide s (checkBuffer s) := by
  obtain ⟨_, e⟩ | ⟨_, _, e⟩ | ⟨_, _, _, e⟩ | ⟨_, _, _, e⟩ := checkBuffer_cases s <;> rw [e] <;>
    exact ⟨rfl, rfl, rfl⟩

theorem sameHostSide_drainStep (s : State) : sameHostSide s (drainStep s) := by
  unfold drainStep
  dsimp only
  split_ifs <;> exact ⟨emitSlot_cfg _ s, emitSlot_inputs _ s, emitSlot_ibuf _ s⟩

theorem sameHostSide_scanOutcome {s t : State} (h : ScanOutcome s t) : sameHostSide s t := by
  cases h with
  | reads => simp [sameHostSide]
  | fails => exact ⟨rfl, rfl, rfl⟩
  | delivers => simp [sameHostSide, State.reported]
  | skips => simp [sameHostSide, State.reported]
  | refuses => exact ⟨rfl, rfl, rfl⟩

/-- No phase's own step writes what is the host's. -/
theorem sameHostSide_phaseStep {s t : State} (h : phaseStep s = .next t) : sameHostSide s t := by
  obtain ⟨_, rfl⟩ | ⟨_, rfl⟩ | ⟨_, _, ho⟩ | ⟨_, rfl⟩ := phaseStep_outcomes h
  · exact ⟨rfl, rfl, rfl⟩
  · exact sameHostSide_checkBuffer s
  · exact sameHostSide_scanOutcome ho
  · exact sameHostSide_drainStep s

/-- Past the host port nothing of the step writes what is the host's: not RESET, not START, not the phase's own step. -/
theorem sameHostSide_step {s t : State} (h : step s = .next t) : sameHostSide s.entered t := by
  obtain ⟨_, ⟨_, rfl⟩ | ⟨_, _, _, rfl⟩ | ⟨_, hp⟩⟩ := step_entered h
  · exact ⟨rfl, rfl, rfl⟩
  · exact ⟨rfl, rfl, rfl⟩
  · exact sameHostSide_phaseStep hp

/-- The host port lets no write through while busy (R53, R287 item 1). -/
theorem writes_eq_nil_of_busy {s t : State} (h : step s = .next t) (hb : s.busy = true) : s.input.writes = [] := by
  obtain ⟨_, _, hw, _⟩ := step_cases h
  exact hw hb

/-- Settles O24: the host port is the only place of a step that writes IBUF, and while busy it passes no write on. -/
theorem onlyTheHostWritesIbuf : Obligations.OnlyTheHostWritesIbuf := by
  intro s t h
  obtain ⟨hcfg, hinputs, hibuf⟩ := sameHostSide_step h
  refine ⟨hibuf, fun hb => ⟨writes_eq_nil_of_busy h hb, fun a => ?_⟩, hcfg, hinputs⟩
  rw [hibuf, (step_entered h).1 hb]

end Sys2Proof.Machine
end

section
/-! SUPPORT. The decoder of raw bytes (R71), one equation per row of its table. -/

namespace Sys2Proof

theorem rawClass_flagByte (c : Config) (e o : Bool) :
    rawClass c e o c.flagByte = if o then .flagClose else .flagBoundary := if_pos rfl

theorem rawClass_escaped {c : Config} {b : Byte} (hf : b ≠ c.flagByte) (o : Bool) :
    rawClass c true o b = .escaped b := if_neg hf

theorem rawClass_escByte {c : Config} (hne : c.flagByte ≠ c.escByte) (o : Bool) :
    rawClass c false o c.escByte = .esc := by
  simp [rawClass, hne.symm]

theorem rawClass_lit {c : Config} {b : Byte} (hf : b ≠ c.flagByte) (he : b ≠ c.escByte) (o : Bool) :
    rawClass c false o b = .lit b := by
  simp [rawClass, hf, he]

/-- Settles O33: on each row of R71's table the class is known, and the conditions of the other rows are false. -/
theorem rawByteClassesFollowTheirConditions : Obligations.RawByteClassesFollowTheirConditions := by
  intro c e o b hne
  by_cases hf : b = c.flagByte
  · subst hf
    cases o <;> simp [rawClass_flagByte, hne]
  · cases e with
    | true => simp [rawClass_escaped hf, hf, eq_comm]
    | false =>
      by_cases he : b = c.escByte
      · subst he
        simp [rawClass_escByte hne, hf]
      · simp [rawClass_lit hf he, hf, he, eq_comm]

end Sys2Proof
end

section
/-! SUPPORT. The checksum (R101 to R105): the shifts of R101 are linear over XOR, so a byte or a whole FCS word may be
XORed into the accumulator before the shifts. -/

namespace Sys2Proof.Machine

/-! ## The shifts of R101 -/

theorem crcShift_of_even {poly v : Word16} (hv : v.getLsbD 0 = false) : crcShift poly v = v >>> 1 :=
  if_neg (ne_true_of_eq_false hv)

theorem crcShift_of_odd {poly v : Word16} (hv : v.getLsbD 0 = true) : crcShift poly v = v >>> 1 ^^^ poly :=
  if_pos hv

/-- The two polynomials of two odd values cancel. -/
theorem crcShift_xor (poly v w : Word16) : crcShift poly (v ^^^ w) = crcShift poly v ^^^ crcShift poly w := by
  have hbit : (v ^^^ w).getLsbD 0 = (v.getLsbD 0 ^^ w.getLsbD 0) := BitVec.getLsbD_xor
  have hshift : (v ^^^ w) >>> 1 = v >>> 1 ^^^ w >>> 1 := BitVec.ushiftRight_xor_distrib ..
  cases hv : v.getLsbD 0 <;> cases hw : w.getLsbD 0 <;> rw [hv, hw] at hbit
  · rw [crcShift_of_even hbit, crcShift_of_even hv, crcShift_of_even hw, hshift]
  · rw [crcShift_of_odd hbit, crcShift_of_even hv, crcShift_of_odd hw, hshift, BitVec.xor_assoc]
  · rw [crcShift_of_odd hbit, crcShift_of_odd hv, crcShift_of_even hw, hshift]
    ac_rfl
  · have hcancel : poly ^^^ (w >>> 1 ^^^ poly) = w >>> 1 := by
      rw [BitVec.xor_comm, BitVec.xor_assoc, BitVec.xor_self, BitVec.xor_zero]
    rw [crcShift_of_even hbit, crcShift_of_odd hv, crcShift_of_odd hw, hshift, BitVec.xor_assoc, hcancel]

theorem crcShifts_xor (poly : Word16) (k : Nat) (v w : Word16) :
    crcShifts poly k (v ^^^ w) = crcShifts poly k v ^^^ crcShifts poly k w := by
  induction k generalizing v w with
  | zero => rfl
  | succ k ih => simp only [crcShifts, crcShift_xor, ih]

theorem crcShifts_add (poly : Word16) (j k : Nat) (v : Word16) :
    crcShifts poly (j + k) v = crcShifts poly k (crcShifts poly j v) := by
  induction j generalizing v with
  | zero => rw [Nat.zero_add]; rfl
  | succ j ih => rw [Nat.succ_add]; exact ih _

/-- While only zeros fall out, the polynomial is never XORed in. -/
theorem crcShifts_of_low_zeros {poly v : Word16} {k : Nat} (hv : ∀ i < k, v.getLsbD i = false) :
    crcShifts poly k v = v >>> k := by
  induction k generalizing v with
  | zero => rfl
  | succ k ih =>
    have hlow : ∀ i < k, (v >>> 1).getLsbD i = false := fun i hi => by
      simpa using hv (1 + i) (by omega)
    rw [crcShifts, crcShift_of_even (hv 0 (by omega)), ih hlow, ← BitVec.shiftRight_add, Nat.add_comm]

/-! ## A word as its two bytes -/

theorem lowByte_xor_highByte (w : Word16) :
    (w.setWidth 8).setWidth 16 ^^^ (w >>> 8) <<< 8 = w := by
  ext i hi
  by_cases h : i < 8
  · simp [h, BitVec.getLsbD_eq_getElem hi]
  · have hsum : 8 + (i - 8) = i := by omega
    simp [h, hsum, BitVec.getLsbD_eq_getElem hi]

theorem crcShifts_highByte (poly w : Word16) : crcShifts poly 8 ((w >>> 8) <<< 8) = w >>> 8 := by
  have hback : ((w >>> 8) <<< 8) >>> 8 = w >>> 8 := by
    ext i hi
    simpa using BitVec.lt_of_getLsbD
  rw [crcShifts_of_low_zeros fun i hi => by simp [hi], hback]

/-! ## One byte, and the two bytes of an FCS -/

/-- Of `c XOR b` the low byte goes through the table and the high byte, which is `c`'s, only moves down (R105). -/
theorem crcStep_eq_crcBitwise (poly c : Word16) (b : Byte) : crcStep poly c b = crcBitwise poly c b := by
  have hhigh : (c ^^^ b.setWidth 16) >>> 8 = c >>> 8 := by
    ext i hi
    simp
  calc crcStep poly c b
      = crcShifts poly 8 (((c ^^^ b.setWidth 16).setWidth 8).setWidth 16) ^^^
          crcShifts poly 8 (((c ^^^ b.setWidth 16) >>> 8) <<< 8) := by
        rw [crcShifts_highByte, hhigh, BitVec.xor_comm]; rfl
    _ = crcBitwise poly c b := by rw [← crcShifts_xor, lowByte_xor_highByte]; rfl

/-- Settles O37, by the linearity of the shifts. -/
theorem crcTableFormIsBitwiseForm : Obligations.CrcTableFormIsBitwiseForm :=
  crcStep_eq_crcBitwise

/-- Reading a word's two bytes, low byte first, is sixteen shifts of the accumulator XOR the word. -/
theorem crcStep_lowByte_highByte (poly c w : Word16) :
    crcStep poly (crcStep poly c (w.extractLsb' 0 8)) (w.extractLsb' 8 8) = crcShifts poly 16 (c ^^^ w) := by
  have hlow : (w.extractLsb' 0 8).setWidth 16 = (w.setWidth 8).setWidth 16 := by
    rw [BitVec.setWidth_eq_extractLsb' (by decide : 8 ≤ 16)]
  have hhigh : (w.extractLsb' 8 8).setWidth 16 = w >>> 8 := by
    ext i hi
    have hlt : w.getLsbD (8 + i) = true → i < 8 := fun h => by
      have := BitVec.lt_of_getLsbD h
      omega
    simpa using hlt
  simp only [crcStep_eq_crcBitwise, crcBitwise, hlow, hhigh]
  rw [← crcShifts_highByte poly w, ← crcShifts_xor, BitVec.xor_assoc, lowByte_xor_highByte]
  exact (crcShifts_add poly 8 8 _).symm

/-! ## The residue of a frame (R103, R104) -/

theorem crcFold_append (cfg : Config) (c : Word16) (bs bs' : List Byte) :
    crcFold cfg c (bs ++ bs') = crcFold cfg (crcFold cfg c bs) bs' :=
  List.foldl_append

/-- The accumulator XOR its own complement is all ones, so the residue of a body with its FCS does not depend on the
body. -/
theorem crcFold_append_fcsBytes (cfg : Config) (body : List Byte) :
    crcFold cfg cfg.crcSeed (body ++ fcsBytes cfg body) = crcShifts cfg.crcPolyR 16 0xFFFF := by
  calc crcFold cfg cfg.crcSeed (body ++ fcsBytes cfg body)
      = crcShifts cfg.crcPolyR 16 (crcFold cfg cfg.crcSeed body ^^^ fcs cfg body) := by
        rw [crcFold_append]; exact crcStep_lowByte_highByte ..
    _ = crcShifts cfg.crcPolyR 16 0xFFFF := by
        rw [fcs, ← BitVec.xor_assoc, BitVec.xor_self, BitVec.zero_xor]

/-- Settles O38: every body's residue is that of the empty body, which is CRC_GOOD. -/
theorem fcsGivesTheGoodResidue : Obligations.FcsGivesTheGoodResidue := by
  refine fun cfg => ⟨fun hgood body => ?_, by decide⟩
  have hempty : crcFold cfg cfg.crcSeed (fcsBytes cfg []) = cfg.crcGood := by
    simpa [crcConsistent] using hgood
  rw [← List.nil_append (fcsBytes cfg []), crcFold_append_fcsBytes] at hempty
  rw [crcOk, crcFold_append_fcsBytes, hempty, beq_self_eq_true]

end Sys2Proof.Machine
end

section
/-! SUPPORT. The decoder's raw-byte forms (R121 to R125), the errors of a closing flag (R128, R129, R158), and the frame
registers as a function of the raw interior (R139). -/

namespace Sys2Proof.Machine

/-! ## Saturating counters (R13) -/

theorem toNat_satInc : ∀ v : BitVec 3, (satInc v).toNat = min (v.toNat + 1) 7 := by decide

theorem toNat_satCount (k : Nat) : (satCount k).toNat = min k 7 := by
  rw [satCount, BitVec.toNat_ofNat]
  omega

theorem satInc_satCount (k : Nat) : satInc (satCount k) = satCount (k + 1) := by
  apply BitVec.eq_of_toNat_eq
  rw [toNat_satInc, toNat_satCount, toNat_satCount]
  omega

/-- Below its limit a saturating counter shows the count itself. -/
theorem satCount_eq_ofNat_iff {j : Nat} (hj : j < 7) (k : Nat) : satCount k = BitVec.ofNat 3 j ↔ k = j := by
  rw [← BitVec.toNat_inj, toNat_satCount, BitVec.toNat_ofNat]
  omega

/-! ## Literal, escape and escaped byte (R121 to R123) -/

theorem placedByte_literal (cfg : Config) (f : Frame) (b : Byte) : placedByte cfg b f (f.literal cfg b) :=
  ⟨toNat_satInc f.rc, toNat_satInc f.n, rfl, rfl, rfl, rfl⟩

theorem placedByte_escaped (cfg : Config) (f : Frame) (b : Byte) :
    placedByte cfg (b ^^^ cfg.escXor) f (f.escaped cfg b) :=
  ⟨toNat_satInc f.rc, toNat_satInc f.n, rfl, rfl, rfl, rfl⟩

/-- A step that writes the frame registers and moves the cursor on does nothing else. -/
theorem cursorAdvanced_advance_setFrame (s : State) (g : Frame) :
    cursorAdvanced s (advance { s with fr := g }) ∧ (advance { s with fr := g }).win = s.win ∧
      samePosition s (advance { s with fr := g }) ∧ sameEvent s (advance { s with fr := g }) ∧
      sameReport s (advance { s with fr := g }) ∧ sameWorld s (advance { s with fr := g }) := by
  refine ⟨⟨by simp, by simp, by simp, fun h => ?_, fun h => ?_⟩, by simp, by simp [samePosition],
    by simp [sameEvent], by simp [sameReport], by simp [sameWorld]⟩
  · simp [advance_phase, advance_dk, h]
  · simp [advance_phase, advance_dk, h]

/-- Settles O12: LIT writes the frame registers by `Frame.literal`, and the rest is the cursor's move. -/
theorem literalByteIsPlaced : Obligations.LiteralByteIsPlaced := by
  refine fun b s => ⟨_, rfl, ?_, ?_, cursorAdvanced_advance_setFrame s (s.fr.literal s.cfg b)⟩ <;> rw [advance_fr]
  · exact placedByte_literal s.cfg s.fr b
  · rfl

/-- Settles O13: `Frame.escape` places no byte. -/
theorem escapeMarkerSetsPending : Obligations.EscapeMarkerSetsPending := by
  refine fun s => ⟨_, rfl, ?_, ?_, ?_, ?_, ?_, ?_, ?_, cursorAdvanced_advance_setFrame s s.fr.escape⟩ <;>
    rw [advance_fr]
  case refine_1 => exact toNat_satInc s.fr.rc
  all_goals rfl

/-- Settles O14: `Frame.escaped` places the destuffed byte, whichever byte is read. -/
theorem escapedByteIsDestuffed : Obligations.EscapedByteIsDestuffed := by
  refine fun b s => ⟨_, rfl, ?_, ?_, cursorAdvanced_advance_setFrame s (s.fr.escaped s.cfg b)⟩ <;> rw [advance_fr]
  · exact placedByte_escaped s.cfg s.fr b
  · rfl

/-! ## The errors of a closing flag (R128, R129, R158, R254) -/

/-- CLOSE_FRAME by the registers: the checks in R254's order, then the frame type. -/
theorem closeFrame_eq (s : State) :
    closeFrame s =
      if s.fr.rc.toNat < 4 then .raised (raiseError .tooShort s)
      else if s.fr.crc ≠ s.cfg.crcGood then .raised (raiseError .checksumInvalid s)
      else if classifyType s.fr.ctrl = .data then dataOutcome s.reported
      else .goes s.reported := by
  have hshort : s.fr.tooShort = decide (s.fr.rc.toNat < 4) := rfl
  simp [closeFrame, closeClass_controlClass, hshort, crcOk]

/-- A Data frame without a legal command is refused after its report (R158). -/
theorem dataOutcome_reported_of_no_command {s : State} (hd : classifyType s.fr.ctrl = .data)
    (hk : ∀ k, ¬s.fr.carries s.cfg k) : dataOutcome s.reported = .raised (raiseError .invalidCommand s.reported) := by
  obtain ⟨k, hc, _⟩ | ⟨_, _, e⟩ := dataOutcome_cases s.reported
  · exact absurd ⟨hd, hc⟩ (hk k)
  · exact e

/-- An error raised by the close ends the step (R252). -/
theorem exec_flagClose_of_raised {s t : State} (h : closeFrame s = .raised t) : exec .flagClose s = .next t := by
  change execFlagClose s = _
  rw [execFlagClose, h, Flow.finish]

/-- The error entry writes phase and err_code only (R252). -/
theorem raiseError_keeps (e : ErrorKind) (s : State) :
    enteredError e.code s (raiseError e s) ∧ (raiseError e s).fr = s.fr ∧ (raiseError e s).win = s.win ∧
      samePosition s (raiseError e s) ∧ sameEvent s (raiseError e s) ∧ sameReport s (raiseError e s) ∧
      sameWorld s (raiseError e s) :=
  ⟨⟨rfl, rfl, rfl, rfl, rfl⟩, rfl, rfl, ⟨rfl, rfl⟩, ⟨rfl, rfl, rfl⟩, ⟨rfl, rfl, rfl, rfl⟩, ⟨rfl, rfl, fun _ => rfl⟩⟩

/-- Settles O17: the close is decided by R254's checks in their order, and the error entry keeps what `s`, or `s` with
the report of its frame, has. -/
theorem flagCloseErrors : Obligations.FlagCloseErrors := by
  refine fun s => ⟨fun hrc => ?_, fun hrc hcrc => ?_, fun hrc hcrc hbit hcmd => ?_⟩
  · have hclose : closeFrame s = .raised (raiseError .tooShort s) := by rw [closeFrame_eq, if_pos hrc]
    exact ⟨_, exec_flagClose_of_raised hclose, raiseError_keeps .tooShort s⟩
  · have hclose : closeFrame s = .raised (raiseError .checksumInvalid s) := by
      rw [closeFrame_eq, if_neg (Nat.not_lt.2 hrc), if_pos hcrc]
    exact ⟨_, exec_flagClose_of_raised hclose, raiseError_keeps .checksumInvalid s⟩
  · have hd : classifyType s.fr.ctrl = .data := (classifyType_eq_data _).2 hbit
    have hk : ∀ k, ¬s.fr.carries s.cfg k := fun k h => by
      obtain ⟨_, hn, c, hc⟩ := (exists_carries_iff s.cfg s.fr).1 ⟨k, h⟩
      exact hcmd.elim (fun hn4 => by omega) fun hno => hno c hc
    have hclose : closeFrame s = .raised (raiseError .invalidCommand s.reported) := by
      rw [closeFrame_eq, if_neg (Nat.not_lt.2 hrc), if_neg (not_not_intro hcrc), if_pos hd,
        dataOutcome_reported_of_no_command hd hk]
    obtain ⟨herr, hfr, hwin, hpos, hev, _, hworld⟩ := raiseError_keeps .invalidCommand s.reported
    have htype : frameTypeCode (classifyType s.fr.ctrl) = 0 := by rw [hd]; rfl
    exact ⟨_, exec_flagClose_of_raised hclose, herr, hfr, hwin, hpos, hev, ⟨rfl, htype, rfl, rfl⟩, hworld⟩

/-! ## The frame registers as a function of the raw interior (R139) -/

/-- The registers of a frame of which `m` raw bytes are read, with the destuffed bytes `d`, and an escape pending or
not (R139). -/
def Frame.ofSlice (cfg : Config) (m : Nat) (d : List Byte) (esc : Bool) : Frame :=
  { esc := esc, rc := satCount m, n := satCount d.length, crc := crcFold cfg cfg.crcSeed d,
    addr := d.getD 0 0x00, ctrl := d.getD 1 0x00, cmdb := d.getD 2 0x00 }

section
variable (cfg : Config) (m : Nat) (d : List Byte) (esc : Bool) (b : Byte)

theorem fresh_eq_ofSlice : Frame.fresh cfg = Frame.ofSlice cfg 0 [] false := rfl

theorem countRaw_ofSlice : (Frame.ofSlice cfg m d esc).countRaw = Frame.ofSlice cfg (m + 1) d esc := by
  rw [Frame.countRaw, Frame.ofSlice, satInc_satCount]
  rfl

/-- Register `i` takes the byte that comes when `n = i`, and no other (R124). -/
theorem placed_getD {i : Nat} (hi : i < 7) :
    (if satCount d.length = BitVec.ofNat 3 i then b else d.getD i 0x00) = (d ++ [b]).getD i 0x00 := by
  simp only [satCount_eq_ofNat_iff hi]
  obtain h | rfl | h := Nat.lt_trichotomy i d.length
  · rw [if_neg (by omega), List.getD_append _ _ _ _ h]
  · simp
  · rw [if_neg (by omega), List.getD_eq_default _ _ h.le, List.getD_eq_default _ _ (by simp; omega)]

theorem accept_ofSlice : (Frame.ofSlice cfg m d esc).accept cfg b = Frame.ofSlice cfg m (d ++ [b]) esc := by
  have hn : satInc (satCount d.length) = satCount (d ++ [b]).length := by
    rw [satInc_satCount, List.length_append, List.length_singleton]
  have hcrc : crcUpdate cfg (crcFold cfg cfg.crcSeed d) b = crcFold cfg cfg.crcSeed (d ++ [b]) :=
    (crcFold_append cfg _ d [b]).symm
  have haddr := placed_getD d b (i := 0) (by decide)
  have hctrl := placed_getD d b (i := 1) (by decide)
  have hcmdb := placed_getD d b (i := 2) (by decide)
  simp only [Frame.accept, Frame.ofSlice, ← hn, ← hcrc, ← haddr, ← hctrl, ← hcmdb]
  rfl

theorem literal_ofSlice : (Frame.ofSlice cfg m d esc).literal cfg b = Frame.ofSlice cfg (m + 1) (d ++ [b]) esc := by
  rw [Frame.literal, countRaw_ofSlice, accept_ofSlice]

theorem escape_ofSlice : (Frame.ofSlice cfg m d esc).escape = Frame.ofSlice cfg (m + 1) d true := by
  rw [Frame.escape, countRaw_ofSlice]
  rfl

theorem escaped_ofSlice :
    (Frame.ofSlice cfg m d esc).escaped cfg b = Frame.ofSlice cfg (m + 1) (d ++ [destuffed cfg b]) false := by
  rw [Frame.escaped, countRaw_ofSlice]
  exact accept_ofSlice cfg (m + 1) d false _

variable {b}

theorem feed_ofSlice_literal (hf : b ≠ cfg.flagByte) (he : b ≠ cfg.escByte) :
    (Frame.ofSlice cfg m d false).feed cfg b = Frame.ofSlice cfg (m + 1) (d ++ [b]) false := by
  rw [feed_literal hf rfl he, literal_ofSlice]

theorem feed_ofSlice_escape (hf : cfg.escByte ≠ cfg.flagByte) :
    (Frame.ofSlice cfg m d false).feed cfg cfg.escByte = Frame.ofSlice cfg (m + 1) d true := by
  rw [feed_escape hf rfl rfl, escape_ofSlice]

theorem feed_ofSlice_escaped (hf : b ≠ cfg.flagByte) :
    (Frame.ofSlice cfg m d true).feed cfg b = Frame.ofSlice cfg (m + 1) (d ++ [destuffed cfg b]) false := by
  rw [feed_escaped hf rfl, escaped_ofSlice]

end

theorem feedAll_cons (cfg : Config) (f : Frame) (b : Byte) (bs : List Byte) :
    f.feedAll cfg (b :: bs) = (f.feed cfg b).feedAll cfg bs := rfl

/-- Reading on from registers without a pending escape adds to them what the slice form says of the bytes read. The
cases are those of `destuff`: a last escape, a last literal, an escape pair, a literal. -/
theorem feedAll_ofSlice (cfg : Config) (r : List Byte) (hr : ∀ b ∈ r, b ≠ cfg.flagByte) (m : Nat) (d : List Byte) :
    (Frame.ofSlice cfg m d false).feedAll cfg r =
      Frame.ofSlice cfg (m + r.length) (d ++ destuff cfg r) (danglingEscape cfg r) := by
  induction r using destuff.induct cfg generalizing m d with
  | case1 => simp [Frame.feedAll, destuff, danglingEscape]
  | case2 =>
    rw [feedAll_cons, feed_ofSlice_escape cfg m d (hr _ (by simp))]
    simp [Frame.feedAll, destuff, danglingEscape]
  | case3 b hb =>
    rw [feedAll_cons, feed_ofSlice_literal cfg m d (hr _ (by simp)) hb]
    simp [Frame.feedAll, destuff, danglingEscape, hb, beq_false_of_ne hb]
  | case4 b t ih =>
    rw [feedAll_cons, feed_ofSlice_escape cfg m d (hr _ (by simp)), feedAll_cons,
      feed_ofSlice_escaped cfg _ d (hr _ (by simp)), ih fun c hc => hr c (by simp [hc])]
    have hm : m + 1 + 1 + t.length = m + (t.length + 1 + 1) := by omega
    simp [destuff, danglingEscape, hm]
  | case5 b b' t hb ih =>
    rw [feedAll_cons, feed_ofSlice_literal cfg m d (hr _ (by simp)) hb, ih fun c hc => hr c (.tail b hc)]
    simp [destuff, danglingEscape, hb, Nat.add_assoc, Nat.add_comm]

theorem feedAll_fresh (cfg : Config) (r : List Byte) (hr : ∀ b ∈ r, b ≠ cfg.flagByte) :
    (Frame.fresh cfg).feedAll cfg r = Frame.ofSlice cfg r.length (destuff cfg r) (danglingEscape cfg r) := by
  rw [fresh_eq_ofSlice, feedAll_ofSlice cfg r hr, Nat.zero_add, List.nil_append]

/-! ## The close as the slice form's outcome (R127, R139) -/

/-- The saturating counter still tells whether the command byte was read (R136). -/
theorem commandField_ofSlice (cfg : Config) (m : Nat) (d : List Byte) (esc : Bool) :
    (Frame.ofSlice cfg m d esc).commandField = if 5 ≤ d.length then d[2]? else none := by
  have hn : 5#3 ≤ satCount d.length ↔ 5 ≤ d.length := by
    rw [BitVec.le_def, toNat_satCount]
    change 5 ≤ _ ↔ _
    omega
  simp only [Frame.commandField, Frame.ofSlice, hn]
  split_ifs with h5
  · have h2 : 2 < d.length := by omega
    rw [List.getD_eq_getElem _ _ h2, List.getElem?_eq_getElem h2]
  · rfl

/-- The slice form's outcome read off the registers: the same decisions as `closeFrame_eq`. -/
theorem closeSlice_eq (cfg : Config) (r : List Byte) (esc : Bool) {f : Frame}
    (hf : f = Frame.ofSlice cfg r.length (destuff cfg r) esc) :
    closeSlice cfg r =
      if f.rc.toNat < 4 then .error .tooShort
      else if f.crc ≠ cfg.crcGood then .error .checksumInvalid
      else if classifyType f.ctrl = .data then .data f.commandField
      else .skip := by
  subst hf
  have hrc : (Frame.ofSlice cfg r.length (destuff cfg r) esc).rc.toNat < 4 ↔ r.length < Config.minRawInterior := by
    rw [Frame.ofSlice, toNat_satCount, Config.minRawInterior]
    omega
  simp only [hrc, commandField_ofSlice]
  rfl

/-- Settles O40: the bytes read leave the registers of `Frame.ofSlice`, and both closes decide by these. -/
theorem byteSerialFrameIsTheSliceForm : Obligations.ByteSerialFrameIsTheSliceForm := by
  intro cfg r _ hr f d
  have hf : f = Frame.ofSlice cfg r.length d (danglingEscape cfg r) := feedAll_fresh cfg r hr
  have hslice := closeSlice_eq cfg r _ hf
  refine ⟨congrArg Frame.rc hf, congrArg Frame.n hf, congrArg Frame.crc hf, congrArg Frame.addr hf,
    congrArg Frame.ctrl hf, congrArg Frame.cmdb hf, congrArg Frame.esc hf, ?_⟩
  rintro s rfl hs reported
  rw [← hs] at hslice
  have hreported : reported = s.reported := by rw [State.reported, hs]
  rw [closeFrame_eq, hslice, hreported]
  split_ifs <;> rfl

end Sys2Proof.Machine
end

section
/-! SUPPORT. The frame stream (R150 to R160): the step of CHECK, the flag at an empty boundary, and the closing flag that
delivers a good frame. -/

namespace Sys2Proof

/-- Legal parameters give the four commands four different bytes (log 19). -/
theorem commandByte_injective {c : Config} (h : c.wf = true) : Function.Injective c.commandByte := by
  simp only [Config.wf, Bool.and_eq_true, bne_iff_ne] at h
  obtain ⟨⟨⟨⟨⟨⟨_, hud⟩, hur⟩, hul⟩, hdr⟩, hdl⟩, hrl⟩ := h
  intro j k hjk
  cases j <;> cases k <;> simp_all [Config.commandByte]

theorem commandOf_commandByte {c : Config} (h : c.wf = true) (k : Command) : commandOf c (c.commandByte k) = some k := by
  obtain ⟨k', hk'⟩ := (exists_commandOf_iff c _).2 ⟨k, rfl⟩
  rw [hk', commandByte_injective h (commandByte_of_commandOf hk')]

end Sys2Proof

namespace Sys2Proof.Machine

/-! ## The step of CHECK (R150 to R152) -/

/-- CHECK_BUFFER keeps the sequencer's LEN and cursor, the frame registers and the window. -/
theorem checkBuffer_keeps_run (s : State) :
    (checkBuffer s).len = s.len ∧ (checkBuffer s).ptr = s.ptr ∧ (checkBuffer s).fr = s.fr ∧
      (checkBuffer s).win = s.win := by
  obtain ⟨_, e⟩ | ⟨_, _, e⟩ | ⟨_, _, _, e⟩ | ⟨_, _, _, e⟩ := checkBuffer_cases s <;> rw [e] <;>
    exact ⟨rfl, rfl, rfl, rfl⟩

theorem exec_noStrobe_of_check {s : State} (hp : s.phase = .check) : exec .noStrobe s = .next (checkBuffer s) := by
  change phaseStep s = _
  simp only [phaseStep, hp]

/-- Settles O6: in each of CHECK_BUFFER's outcomes one clause holds and the premises of the others are false. -/
theorem checkBufferOutcome : Obligations.CheckBufferOutcome := by
  intro s hp
  obtain ⟨hlen, hptr, hfr, hwin⟩ := checkBuffer_keeps_run s
  obtain ⟨hout, hpos⟩ := checkBuffer_keeps s
  obtain ⟨hcfg, hinputs, hibuf⟩ := sameHostSide_checkBuffer s
  refine ⟨_, exec_noStrobe_of_check hp, hlen, hptr, hfr, hwin, hpos, by simp [sameEvent, hout],
    by simp [sameReport, hout], ⟨hcfg, hinputs, fun a => by rw [hibuf]⟩, ?_⟩
  obtain ⟨h0, e⟩ | ⟨h0, h1, e⟩ | ⟨h0, h1, h2, e⟩ | ⟨h0, h1, h2, e⟩ := checkBuffer_cases s <;> rw [e]
  · simp [h0]
  · simp [h0, h1, ErrorKind.code]
  · simp [h0, h1, h2, ErrorKind.code]
  · simp [h0, h1, h2]

/-! ## The end of a flag's step (R120, R153, R154) -/

theorem frameCleared_fresh (cfg : Config) : frameCleared cfg (Frame.fresh cfg) := ⟨rfl, rfl, rfl, rfl, rfl, rfl, rfl⟩

/-- Every flag's step that raises nothing ends in this way: it clears the frame registers and moves the cursor on. -/
theorem advance_frameReset_effect (s : State) :
    frameCleared s.cfg (advance (frameReset s)).fr ∧ cursorAdvanced s (advance (frameReset s)) ∧
      (advance (frameReset s)).win = s.win ∧ samePosition s (advance (frameReset s)) ∧
      sameEvent s (advance (frameReset s)) ∧ sameReport s (advance (frameReset s)) ∧
      sameWorld s (advance (frameReset s)) := by
  refine ⟨?_, cursorAdvanced_advance_setFrame s (Frame.fresh s.cfg)⟩
  rw [advance_fr]
  exact frameCleared_fresh s.cfg

/-- Settles O16: the step is `frameReset` and the cursor's move, and a legal state with rc = 0 has the fresh frame. -/
theorem flagAtBoundaryClearsTheFrame : Obligations.FlagAtBoundaryClearsTheFrame := by
  intro s
  obtain ⟨hclear, hcursor, hrest⟩ := advance_frameReset_effect s
  refine ⟨_, rfl, hclear, hcursor, fun hlegal hrc => ?_, hrest⟩
  rw [advance_fr, hlegal.closedFrame hrc, frameReset_fr]

/-! ## The closing flag of a good frame (R155, R157, R159) -/

/-- A close that raises nothing ends like a flag at a boundary (R155). -/
theorem exec_flagClose_of_goes {s t : State} (h : closeFrame s = .goes t) :
    exec .flagClose s = .next (advance (frameReset t)) := by
  change execFlagClose s = _
  rw [execFlagClose, h, Flow.finish]

/-- A frame that passes its checks is closed by its type. -/
theorem closeFrame_of_good {s : State} (hrc : 4 ≤ s.fr.rc.toNat) (hcrc : s.fr.crc = s.cfg.crcGood) :
    closeFrame s = if classifyType s.fr.ctrl = .data then dataOutcome s.reported else .goes s.reported := by
  rw [closeFrame_eq, if_neg (Nat.not_lt.2 hrc), if_neg (not_not_intro hcrc)]

/-- The command that a Data frame carries is pushed (R157). -/
theorem dataOutcome_reported_of_carries {s : State} {k : Command} (h : s.fr.carries s.cfg k) :
    dataOutcome s.reported = .goes (push k s.reported) := by
  have hclass : commandClass s.reported.cfg s.reported.fr.commandField = .valid k := h.2
  rw [dataOutcome, hclass]

/-- Under legal parameters a Data frame carries the command whose byte it holds (R136). -/
theorem carries_of_commandByte {cfg : Config} {f : Frame} {k : Command} (hwf : cfg.wf = true)
    (hbit : f.ctrl.getLsbD 0 = false) (hn : 5 ≤ f.n.toNat) (hk : f.cmdb = cfg.commandByte k) : f.carries cfg k := by
  have hfield : f.commandField = some f.cmdb := if_pos hn
  refine ⟨(classifyType_eq_data _).2 hbit, commandClass_eq_valid.2 ⟨_, hfield, ?_⟩⟩
  rw [hk, commandOf_commandByte hwf]

/-- R181's four actions are the release of the oldest entry and `Window.insert`. -/
theorem pushedCommand_of_insert {k : Command} {s t : State} (hr : releasedSlot s.win.oldest s t)
    (hw : t.win = s.win.insert k) : pushedCommand k s t := by
  refine ⟨hr, by rw [hw, insert_cur], fun hrun i => ?_, fun hrun i => ?_⟩
  · rw [hw, slot_insert, if_pos hrun]
  · rw [hw, slot_insert, if_neg hrun]

/-- The end of the step that pushes `k`: the sequencer, the report and what is the host's are those of before the push. -/
theorem advance_frameReset_push_effect (k : Command) (s : State) :
    frameCleared s.cfg (advance (frameReset (push k s))).fr ∧ cursorAdvanced s (advance (frameReset (push k s))) ∧
      (advance (frameReset (push k s))).win = s.win.insert k ∧ sameReport s (advance (frameReset (push k s))) ∧
      sameWorld s (advance (frameReset (push k s))) := by
  obtain ⟨hclear, hcursor, hwin, _, _, _, hworld⟩ := advance_frameReset_effect (push k s)
  refine ⟨by rwa [push_cfg] at hclear, ?_, hwin, ?_, ?_⟩
  · simpa only [cursorAdvanced, push_ptr, push_len, push_errCode, push_phase, push_dk] using hcursor
  · simpa [sameReport] using sameReport_emitSlot s.win.oldest s
  · simpa only [sameWorld, push_cfg, push_inputs, push_ibuf] using hworld

/-- The code of a supervisory frame's type is decided by bit 3 (R130). -/
theorem frameTypeCode_classifyType_of_supervisory {ctrl : Byte} (h : ctrl.getLsbD 0 = true) :
    frameTypeCode (classifyType ctrl) = if ctrl.getLsbD 3 = false then 1 else 2 := by
  rw [classifyType, if_neg (by simp [h])]
  split_ifs <;> rfl

/-- Settles O18: the close of a good frame leaves `s` with its report, with the command pushed if it is a Data frame, and
the step ends with the frame registers cleared and the cursor moved on. -/
theorem flagCloseDelivers : Obligations.FlagCloseDelivers := by
  refine fun s hrc hcrc hwf => ⟨fun k hbit hn hk => ?_, fun hbit => ?_⟩
  · have hcarries := carries_of_commandByte hwf hbit hn hk
    have hclose : closeFrame s = .goes (push k s.reported) := by
      rw [closeFrame_of_good hrc hcrc, if_pos hcarries.1, dataOutcome_reported_of_carries hcarries]
    obtain ⟨hclear, hcursor, hwin, hrep, hworld⟩ := advance_frameReset_push_effect k s.reported
    have hreport := reportsClosedFrame_of_sameReport hrep
    rw [reportsClosedFrame, hcarries.1] at hreport
    exact ⟨_, exec_flagClose_of_goes hclose, pushedCommand_of_insert (deliver_releases k s) hwin, hreport, hclear,
      hcursor, hworld⟩
  · have hd : classifyType s.fr.ctrl ≠ .data := mt (classifyType_eq_data _).1 (by rw [hbit]; decide)
    have hclose : closeFrame s = .goes s.reported := by rw [closeFrame_of_good hrc hcrc, if_neg hd]
    obtain ⟨hclear, hcursor, hwin, hpos, hev, hrep, hworld⟩ := advance_frameReset_effect s.reported
    have hreport := reportsClosedFrame_of_sameReport hrep
    rw [reportsClosedFrame, frameTypeCode_classifyType_of_supervisory hbit] at hreport
    exact ⟨_, exec_flagClose_of_goes hclose, hreport, hclear, hcursor, hwin, hpos, hev, hworld⟩

end Sys2Proof.Machine
end

section
/-! SUPPORT. The step of DRAIN (R183). -/

namespace Sys2Proof.Machine

/-! ## What the step leaves in each register -/

@[simp] theorem drainStep_len (s : State) : (drainStep s).len = s.len := by
  unfold drainStep; dsimp only; split <;> exact emitSlot_len _ s
@[simp] theorem drainStep_ptr (s : State) : (drainStep s).ptr = s.ptr := by
  unfold drainStep; dsimp only; split <;> exact emitSlot_ptr _ s
@[simp] theorem drainStep_errCode (s : State) : (drainStep s).errCode = s.errCode := by
  unfold drainStep; dsimp only; split <;> exact emitSlot_errCode _ s
@[simp] theorem drainStep_fr (s : State) : (drainStep s).fr = s.fr := by
  unfold drainStep; dsimp only; split <;> exact emitSlot_fr _ s
@[simp] theorem drainStep_win (s : State) : (drainStep s).win = s.win.setSlot (s.win.cur + s.dk) none := by
  unfold drainStep; dsimp only; split <;> rfl

theorem drainStep_phase (s : State) : (drainStep s).phase = if s.dk = 2 then .done else s.phase := by
  unfold drainStep; dsimp only; split
  · rfl
  · exact emitSlot_phase _ s

theorem drainStep_dk (s : State) : (drainStep s).dk = if s.dk = 2 then s.dk else s.dk + 1 := by
  unfold drainStep; dsimp only; split
  · exact emitSlot_dk _ s
  · rfl

/-! ## The step as a whole -/

theorem exec_noStrobe_of_drain {s : State} (hp : s.phase = .drain) : exec .noStrobe s = .next (drainStep s) := by
  change phaseStep s = _
  simp only [phaseStep, hp]

/-- Settles O7: the release is `drainStep_releases`, and every register is that of `drainStep`. -/
theorem drainStepReleasesOneSlot : Obligations.DrainStepReleasesOneSlot := by
  intro s hp
  obtain ⟨hcfg, hinputs, hibuf⟩ := sameHostSide_drainStep s
  refine ⟨_, exec_noStrobe_of_drain hp, drainStep_releases s, ?cursor, ?slots, ?last, ?more, drainStep_len s,
    drainStep_ptr s, drainStep_errCode s, drainStep_fr s, sameReport_drainStep s, hcfg, hinputs,
    fun a => by rw [hibuf]⟩
  case cursor => rw [drainStep_win, setSlot_cur]
  case slots =>
    intro i
    rw [drainStep_win, slot_setSlot]
  case last =>
    intro hdk
    rw [drainStep_phase, drainStep_dk, if_pos hdk, if_pos hdk]
    exact ⟨rfl, hdk⟩
  case more =>
    intro hdk
    rw [drainStep_phase, drainStep_dk, if_neg hdk, if_neg hdk]
    exact ⟨hp, Fin.val_add_one_of_lt (Fin.lt_last_iff_ne_last.2 hdk)⟩

end Sys2Proof.Machine
end

section
/-! SUPPORT. The debounce window as a shift register (R188), and what a list of pushes applies (R185). -/

namespace Sys2Proof.Machine

/-! ## The shift-register form (R188) -/

theorem triple_some_iff (k : Command) (a b : Option Command) :
    triple (some k) a b = true ↔ a = some k ∧ b = some k := by
  simp [triple_iff]

/-- A third equal command in a row empties the register. -/
theorem push_of_run {q : Shift} {k : Command} (h : q.q0 = some k ∧ q.q1 = some k) : q.push k = Shift.empty :=
  if_pos ((triple_some_iff k _ _).2 h)

/-- Any other command enters at `q0`, and what `q2` held is gone. -/
theorem push_of_not_run {q : Shift} {k : Command} (h : ¬(q.q0 = some k ∧ q.q1 = some k)) :
    q.push k = { q0 := some k, q1 := q.q0, q2 := q.q1 } :=
  if_neg (mt (triple_some_iff k _ _).1 h)

/-- After the cursor moved on, the slot just written is the newest of the three and the other two keep their order. -/
theorem cursor_shift : ∀ c : Fin 3, c + 1 + 2 = c ∧ c + 1 + 1 = c + 2 ∧ c + 1 ≠ c ∧ c + 2 ≠ c := by decide

/-- The window after a push stands for the register after the push. -/
theorem toShift_insert (w : Window) (k : Command) : (w.insert k).toShift = w.toShift.push k := by
  obtain ⟨hnewest, hmiddle, hne1, hne2⟩ := cursor_shift w.cur
  have hslots : (w.insert k).toShift =
      ⟨(w.insert k).slot w.cur, (w.insert k).slot (w.cur + 2), (w.insert k).slot (w.cur + 1)⟩ := by
    rw [Window.toShift, insert_cur, hnewest, hmiddle]
  by_cases hrun : w.slot (w.cur + 1) = some k ∧ w.slot (w.cur + 2) = some k
  · rw [push_of_run hrun.symm, hslots]
    simp only [slot_insert, if_pos hrun, Shift.empty]
  · rw [push_of_not_run (mt And.symm hrun), hslots]
    simp only [slot_insert, if_neg hrun, hne1, hne2, if_true, if_false, Window.toShift]

/-- Settles O44: `oldest` and `drained` are read off the register, and a push is a push of it. -/
theorem cursorFormIsShiftForm : Obligations.CursorFormIsShiftForm :=
  fun w k => ⟨rfl, toShift_insert w k, rfl⟩

/-! ## The pushes less their suppressed triples (R185) -/

/-- `applied` is `pushed` less triples: `pushed` falls into consecutive blocks, each one command or three equal ones, and
`applied` is the one-command blocks in order. -/
def LessTriples (pushed applied : List Command) : Prop :=
  ∃ blocks : List (List Command),
    (∀ b ∈ blocks, ∃ k, b = [k] ∨ b = [k, k, k]) ∧ pushed = blocks.flatten ∧
      applied = (blocks.filter (fun b => b.length == 1)).flatten

theorem LessTriples.nil : LessTriples [] [] := ⟨[], nofun, rfl, rfl⟩

theorem LessTriples.single (k : Command) : LessTriples [k] [k] := ⟨[[k]], by simp, rfl, rfl⟩

theorem LessTriples.triple (k : Command) : LessTriples [k, k, k] [] := ⟨[[k, k, k]], by simp, rfl, rfl⟩

theorem LessTriples.append {ks ls as bs : List Command} (hk : LessTriples ks as) (hl : LessTriples ls bs) :
    LessTriples (ks ++ ls) (as ++ bs) := by
  obtain ⟨bk, hbk, rfl, rfl⟩ := hk
  obtain ⟨bl, hbl, rfl, rfl⟩ := hl
  refine ⟨bk ++ bl, fun b hb => ?_, by simp, by simp⟩
  obtain hb | hb := List.mem_append.1 hb
  · exact hbk b hb
  · exact hbl b hb

/-- With no triple suppressed, everything pushed is applied. -/
theorem LessTriples.refl : ∀ ks : List Command, LessTriples ks ks
  | [] => .nil
  | k :: ks => (LessTriples.single k).append (LessTriples.refl ks)

/-- What a push does to the entries waiting in the window: it releases the oldest one, and then either completes a triple,
which is all that was left and is suppressed, or joins the others as the newest. -/
theorem drained_insert_cases (w : Window) (k : Command) :
    (w.drained ++ [k] = w.oldest.toList ++ [k, k, k] ∧ (w.insert k).drained = []) ∨
      w.drained ++ [k] = w.oldest.toList ++ (w.insert k).drained := by
  have holdest : w.oldest = w.toShift.q2 := rfl
  simp only [Window.drained, toShift_insert, holdest]
  by_cases hrun : w.toShift.q0 = some k ∧ w.toShift.q1 = some k
  · rw [push_of_run hrun]
    exact .inl ⟨by simp [Shift.pending, hrun], rfl⟩
  · rw [push_of_not_run hrun]
    exact .inr (by simp [Shift.pending])

/-- The commands waiting in any window, followed by the pushes, less triples, are what these pushes and the drain emit. -/
theorem lessTriples_emitted_drained (ks : List Command) (w : Window) :
    LessTriples (w.drained ++ ks) (w.emitted ks ++ (w.insertAll ks).drained) := by
  induction ks generalizing w with
  | nil => simpa [Window.emitted, Window.insertAll] using LessTriples.refl w.drained
  | cons k ks ih =>
    have hrest : LessTriples ((w.insert k).drained ++ ks)
        ((w.insert k).emitted ks ++ (w.insertAll (k :: ks)).drained) := ih (w.insert k)
    rw [Window.emitted, List.append_assoc, List.append_cons]
    obtain ⟨htriple, hempty⟩ | hkept := drained_insert_cases w k
    · rw [hempty] at hrest
      rw [htriple, List.append_assoc]
      exact (LessTriples.refl _).append ((LessTriples.triple k).append hrest)
    · rw [hkept, List.append_assoc]
      exact (LessTriples.refl _).append hrest

/-- Settles O46: `lessTriples_emitted_drained` from the empty window, where nothing waits. -/
theorem appliedCommandsAreThePushesLessTriples : Obligations.AppliedCommandsAreThePushesLessTriples :=
  fun ks => lessTriples_emitted_drained ks Window.empty

end Sys2Proof.Machine
end

section
/-! SUPPORT. The command-byte forms (R200 to R205): the clamped adder in numbers, and the frame of EMIT. -/

namespace Sys2Proof.Machine

/-! ## The clamped adder (R200) -/

/-- The clamp keeps the sum within three bits, so the coordinate is the clamped sum itself, also on 5, 6 and 7. -/
theorem toNat_stepAxis (v : BitVec 3) (delta : Int) : ((stepAxis v delta).toNat : Int) = clamp (v.toNat + delta) := by
  have h0 : 0 ≤ clamp (v.toNat + delta) := le_min (le_max_right _ _) (by decide)
  have h4 : clamp (v.toNat + delta) ≤ 4 := min_le_right _ _
  rw [stepAxis, BitVec.toNat_ofInt]
  omega

theorem toNat_stepAxis_one (v : BitVec 3) : (stepAxis v 1).toNat = min (v.toNat + 1) 4 := by
  have h := toNat_stepAxis v 1
  rw [clamp, Config.gridMax] at h
  omega

/-- Below 0 the clamp is the truncated subtraction. -/
theorem toNat_stepAxis_neg_one (v : BitVec 3) : (stepAxis v (-1)).toNat = min (v.toNat - 1) 4 := by
  have h := toNat_stepAxis v (-1)
  rw [clamp, Config.gridMax] at h
  omega

/-! ## EMIT (R205) -/

theorem exec_toInstr (k : Command) (s : State) : exec k.toInstr s = .next (emit k s) := by
  cases k <;> rfl

/-- EMIT is the release of a slot that holds the command. -/
theorem appliedCommand_emit (k : Command) (s : State) : appliedCommand k s (emit k s) :=
  releasedSlot_of_emitSlot (o := some k) ⟨rfl, rfl⟩ ⟨rfl, rfl, rfl⟩

/-- What any command does but for the coordinate it moves: the event recorded, everything else kept. -/
theorem emit_effect (k : Command) (s : State) :
    appliedCommand k s (emit k s) ∧ (emit k s).fr = s.fr ∧ (emit k s).win = s.win ∧ sameReport s (emit k s) ∧
      sameSequencer s (emit k s) ∧ sameWorld s (emit k s) :=
  ⟨appliedCommand_emit k s, rfl, rfl, ⟨rfl, rfl, rfl, rfl⟩, ⟨rfl, rfl, rfl, rfl, rfl⟩, rfl, rfl, fun _ => rfl⟩

/-- Settles O21: each form is EMIT of its command, whose coordinate is one step of the clamped adder. -/
theorem commandsMoveOneAxis : Obligations.CommandsMoveOneAxis := by
  refine fun s => ⟨?up, ?down, ?right, ?left⟩
  case up => exact ⟨_, exec_toInstr .up s, rfl, toNat_stepAxis_neg_one s.y, emit_effect .up s⟩
  case down => exact ⟨_, exec_toInstr .down s, rfl, toNat_stepAxis_one s.y, emit_effect .down s⟩
  case right => exact ⟨_, exec_toInstr .right s, rfl, toNat_stepAxis_one s.x, emit_effect .right s⟩
  case left => exact ⟨_, exec_toInstr .left s, rfl, toNat_stepAxis_neg_one s.x, emit_effect .left s⟩

end Sys2Proof.Machine
end

section
/-! SUPPORT. The sequencer (R221 to R233): START and NONE by the state of `busy`, when `start` and `len` matter, the
cursor of a SCAN step, and the three steps of DRAIN. -/

namespace Sys2Proof.Machine

/-! ## START and NONE (R222, R223, R227, R228, R230) -/

theorem not_busy_iff (s : State) :
    s.busy = false ↔ s.phase = .idle ∨ s.phase = .done ∨ s.phase = .error := by
  unfold State.busy
  cases s.phase <;> simp

theorem exec_start_of_busy {s : State} (hb : s.busy = true) (len : Nat) : exec (.start len) s = exec .noStrobe s :=
  if_pos hb

theorem exec_start_of_not_busy {s : State} (hb : s.busy = false) {len : Nat} (hl : len ≤ s.cfg.ibufDepth) :
    exec (.start len) s = .next (startRun len s) := by
  change execStart len s = _
  rw [execStart, if_neg (by simp [hb]), if_pos hl]

theorem exec_noStrobe_of_not_busy {s : State} (hb : s.busy = false) : exec .noStrobe s = .next s := by
  change phaseStep s = _
  obtain hp | hp | hp := (not_busy_iff s).1 hb <;> simp only [phaseStep, hp]

/-- Settles O2: not busy, START is `startRun`, whose registers are R222's. -/
theorem startBeginsARun : Obligations.StartBeginsARun := by
  intro len s hp hl
  exact ⟨_, exec_start_of_not_busy ((not_busy_iff s).2 hp) hl, rfl, rfl, rfl, rfl, rfl, frameCleared_fresh s.cfg,
    ⟨rfl, rfl, rfl, rfl, rfl, rfl⟩, rfl, rfl, rfl, ⟨rfl, rfl, rfl⟩, ⟨rfl, rfl, rfl, rfl⟩, rfl, rfl,
    fun _ => rfl⟩

/-! ## The host port and the strobes of a step -/

/-- The host port of a step takes the input and writes IBUF, and that is all (R53, R221). -/
theorem eq_of_hostWrites_dropInput {s u : State} (h : hostWrites s.input s.dropInput = .next u) :
    u = { s with inputs := s.inputs.tail, ibuf := u.ibuf } := by
  obtain ⟨_, rfl⟩ | ⟨_, _, _, _, rfl⟩ := hostWrites_next h <;> rfl

/-- The state that the host operation of an accepted step runs on is busy when the step's own state is. -/
theorem busy_of_hostWrites_dropInput {s u : State} (h : hostWrites s.input s.dropInput = .next u) :
    (defaultOutputs u).busy = s.busy := by
  rw [eq_of_hostWrites_dropInput h]
  rfl

/-- Settles O5: the strobes say NONE, and a phase that is not busy holds the state that the host port passed on. -/
theorem holdPhasesChangeNothing : Obligations.HoldPhasesChangeNothing := by
  intro s hp
  have hb : s.busy = false := (not_busy_iff s).2 hp
  refine ⟨exec_noStrobe_of_not_busy hb, fun u hr hs hu => ⟨?_, eq_of_hostWrites_dropInput hu⟩⟩
  have hnone : s.strobe = .noStrobe := by simp [State.strobe, strobeInstr, hr, hs]
  rw [step_of_hostWrites hu, hnone, exec_noStrobe_of_not_busy ((busy_of_hostWrites_dropInput hu).trans hb)]
  rfl

/-- `s` with `start` and `len` at 0 in the next step. -/
def State.withoutStart (s : State) : State :=
  { s with inputs := { s.input with start := false, len := 0 } :: s.inputs.tail }

/-- The host port looks at `start` for its duty of R232 only, which a busy state does not come to. -/
theorem hostWrites_withoutStart {s : State} (h : s.busy = true ∨ s.input.start = false) :
    hostWrites s.withoutStart.input s.withoutStart.dropInput = hostWrites s.input s.dropInput := by
  have hdrop : s.withoutStart.dropInput = s.dropInput := rfl
  have hinput : s.withoutStart.input = { s.input with start := false, len := 0 } := rfl
  have hbusy : s.dropInput.busy = s.busy := rfl
  rw [hdrop, hinput]
  unfold hostWrites
  rw [hbusy]
  obtain hb | hs := h
  · simp only [hb, if_true]
  · simp only [hs]

/-- An operation that accepts no START is RESET or NONE. -/
theorem exec_strobeInstr_of_no_start {u : State} {start : Bool} (h : u.busy = true ∨ start = false) (rst : Bool)
    (len : Nat) :
    exec (strobeInstr rst start len) u = if rst then .next (resetState u) else exec .noStrobe u := by
  cases rst with
  | true => rfl
  | false =>
    cases start with
    | false => rfl
    | true => exact exec_start_of_busy (h.resolve_right nofun) len

/-- A step that accepts no START answers as if `start` and `len` were 0. -/
theorem step_withoutStart {s : State} (h : s.busy = true ∨ s.input.start = false) : step s.withoutStart = step s := by
  unfold step
  rw [hostWrites_withoutStart h]
  cases hu : hostWrites s.input s.dropInput with
  | next u =>
    have hnone : (defaultOutputs u).busy = true ∨ s.input.start = false :=
      h.imp_left (busy_of_hostWrites_dropInput hu).trans
    exact (exec_strobeInstr_of_no_start (.inr rfl) s.input.rst _).trans
      (exec_strobeInstr_of_no_start hnone s.input.rst _).symm
  | fault => rfl
  | refused => rfl

/-- Settles O3: both inputs give the same step without `start` and `len`. -/
theorem startAndLenHaveNoEffectOutsideStart : Obligations.StartAndLenHaveNoEffectOutsideStart := by
  refine ⟨fun len s hb => exec_start_of_busy hb len, fun s h rest st st' l l' hno => ?_⟩
  have drop (st : Bool) (l : Nat) (hst : s.busy = true ∨ st = false) :
      step { s with inputs := { h with start := false, len := 0 } :: rest } =
        step { s with inputs := { h with start := st, len := l } :: rest } :=
    step_withoutStart (s := { s with inputs := { h with start := st, len := l } :: rest }) hst
  exact (drop st l (hno.imp_right And.left)).symm.trans (drop st' l' (hno.imp_right And.right))

/-! ## The cursor of a SCAN step (R225) -/

/-- While busy, a step without RESET is the phase's own step (R221, R223). -/
theorem phaseStep_entered_of_busy {s t : State} (h : step s = .next t) (hb : s.busy = true)
    (hr : s.input.rst = false) : phaseStep s.entered = .next t := by
  obtain ⟨_, ⟨hr', _⟩ | ⟨_, _, hb', _⟩ | ⟨_, hp⟩⟩ := step_entered h
  · simp [hr] at hr'
  · simp [hb] at hb'
  · exact hp

theorem scanOutcome_of_scan {s t : State} (hp : s.phase = .scan) (h : phaseStep s = .next t) : ScanOutcome s t := by
  obtain ⟨hp', _⟩ | ⟨hp', _⟩ | ⟨_, _, ho⟩ | ⟨hp', _⟩ := phaseStep_outcomes h
  · simp [hp] at hp'
  · simp [hp] at hp'
  · exact ho
  · simp [hp] at hp'

/-- Every outcome of SCAN ends with `advance` or with `raiseError`. -/
theorem scanOutcome_cursor {s t : State} (hp : s.phase = .scan) (h : ScanOutcome s t) :
    (t.phase = .error ∧ t.ptr = s.ptr) ∨
      (t.ptr = s.ptr + 1 ∧ t.phase = if s.ptr + 1 = s.len then .drain else .scan) := by
  cases h with
  | reads => exact .inr (by simp [advance_phase, hp])
  | fails e => exact .inl ⟨rfl, rfl⟩
  | delivers k => exact .inr (by simp [advance_phase, State.reported, hp])
  | skips => exact .inr (by simp [advance_phase, State.reported, hp])
  | refuses => exact .inl ⟨rfl, rfl⟩

/-- Settles O31: the step is a SCAN step of the entered state, which has the cursor, LEN and phase of `s`. -/
theorem scanReadsEachAddressOnce : Obligations.ScanReadsEachAddressOnce := by
  intro s t hp hr h
  have hb : s.busy = true := (busy_iff s).2 (.inr (.inl hp))
  exact scanOutcome_cursor (s := s.entered) hp (scanOutcome_of_scan hp (phaseStep_entered_of_busy h hb hr))

/-! ## The steps of DRAIN (R183, R226) -/

theorem run_succ_of_step {s t : State} (h : step s = .next t) (k : Nat) : core.run (k + 1) s = core.run k t := by
  have hcore : core.step s = .next t := h
  simp only [Host.Core.run, hcore]

/-- A host that neither resets nor writes IBUF in the next `n + 1` steps does not in the first of them, nor in the `n`
after it; past the end of the list it does nothing. -/
theorem quiet_input_and_tail {s : State} {n : Nat}
    (h : ∀ i ∈ s.inputs.take (n + 1), i.rst = false ∧ i.writes = []) :
    (s.input.rst = false ∧ s.input.writes = []) ∧
      ∀ i ∈ s.inputs.tail.take n, i.rst = false ∧ i.writes = [] := by
  unfold State.input
  cases hins : s.inputs with
  | nil => simp
  | cons i rest =>
    rw [hins] at h
    exact ⟨h i (by simp), fun j hj => h j (List.mem_cons_of_mem i hj)⟩

/-- A busy step of a quiet host, whatever `start` is. -/
theorem step_of_busy {s : State} (hb : s.busy = true) (hr : s.input.rst = false) (hw : s.input.writes = []) :
    step s = exec .noStrobe s.begun := by
  rw [step_of_hostWrites (hostWrites_nil _ hw), State.strobe, hr]
  exact exec_strobeInstr_of_no_start (u := s.begun) (.inl hb) false _

theorem emitSlot_position (o : Option Command) (s : State) :
    ((emitSlot o s).x, (emitSlot o s).y) = movedAll (s.x, s.y) o.toList := by
  cases o <;> rfl

theorem drainStep_position (s : State) :
    ((drainStep s).x, (drainStep s).y) = movedAll (s.x, s.y) (s.win.slot (s.win.cur + s.dk)).toList := by
  rw [← emitSlot_position]
  unfold drainStep
  dsimp only
  split <;> rfl

theorem movedAll_append (p : BitVec 3 × BitVec 3) (ks ls : List Command) :
    movedAll p (ks ++ ls) = movedAll (movedAll p ks) ls :=
  List.foldl_append

/-- `t` is `s` one step of DRAIN later, as far as the steps of DRAIN after it depend on it. -/
structure DrainedSlot (s t : State) : Prop where
  phase : t.phase = if s.dk = 2 then .done else .drain
  dk : t.dk = if s.dk = 2 then s.dk else s.dk + 1
  errCode : t.errCode = s.errCode
  position : (t.x, t.y) = movedAll (s.x, s.y) (s.win.slot (s.win.cur + s.dk)).toList
  cur : t.win.cur = s.win.cur
  slots : ∀ i, t.win.slot i = if i = s.win.cur + s.dk then none else s.win.slot i
  inputs : t.inputs = s.inputs.tail

theorem step_of_drain {s : State} (hp : s.phase = .drain) (hq : s.input.rst = false ∧ s.input.writes = []) :
    ∃ t, step s = .next t ∧ DrainedSlot s t := by
  have hb : s.busy = true := (busy_iff s).2 (.inr (.inr hp))
  obtain ⟨_, hinputs, _⟩ := sameHostSide_drainStep s.begun
  refine ⟨drainStep s.begun, ?_, ?_⟩
  · rw [step_of_busy hb hq.1 hq.2]
    exact exec_noStrobe_of_drain hp
  · have hphase := drainStep_phase s.begun
    rw [show s.begun.phase = .drain from hp] at hphase
    have hwin := drainStep_win s.begun
    exact
      { phase := hphase
        dk := drainStep_dk s.begun
        errCode := drainStep_errCode s.begun
        position := drainStep_position s.begun
        cur := by rw [hwin, setSlot_cur]; rfl
        slots := fun i => by rw [hwin, slot_setSlot]; rfl
        inputs := hinputs }

/-- From any cursor, DRAIN visits three different slots, which are all the slots of the window. -/
theorem drain_visits : ∀ c : Fin 3,
    c + 1 ≠ c ∧ c + 2 ≠ c ∧ c + 2 ≠ c + 1 ∧ ∀ i, i = c + 2 ∨ i = c + 1 ∨ i = c := by decide

/-- Settles O8: `step_of_drain` with dk = 0, 1 and 2; a slot not yet visited is as it was. -/
theorem drainTakesThreeSteps : Obligations.DrainTakesThreeSteps := by
  intro s hp hdk hq
  obtain ⟨hq1, hq⟩ := quiet_input_and_tail hq
  obtain ⟨t1, h1, d1⟩ := step_of_drain hp hq1
  have hp1 : t1.phase = .drain := by rw [d1.phase, hdk]; rfl
  have hdk1 : t1.dk = 1 := by rw [d1.dk, hdk]; rfl
  rw [← d1.inputs] at hq
  obtain ⟨hq2, hq⟩ := quiet_input_and_tail hq
  obtain ⟨t2, h2, d2⟩ := step_of_drain hp1 hq2
  have hp2 : t2.phase = .drain := by rw [d2.phase, hdk1]; rfl
  have hdk2 : t2.dk = 2 := by rw [d2.dk, hdk1]; rfl
  rw [← d2.inputs] at hq
  obtain ⟨hq3, -⟩ := quiet_input_and_tail hq
  obtain ⟨t3, h3, d3⟩ := step_of_drain hp2 hq3
  obtain ⟨hne1, hne2, hne21, hvisits⟩ := drain_visits s.win.cur
  refine ⟨t1, t2, t3, run_succ_of_step h1 0, ?run2, ?run3, hp1, hdk1, hp2, hdk2, ?done, ?code, ?position, ?slots,
    ?cur⟩
  case run2 => exact (run_succ_of_step h1 1).trans (run_succ_of_step h2 0)
  case run3 => exact (run_succ_of_step h1 2).trans ((run_succ_of_step h2 1).trans (run_succ_of_step h3 0))
  case done => rw [d3.phase, if_pos hdk2]
  case code => rw [d3.errCode, d2.errCode, d1.errCode]
  case position =>
    rw [d3.position, d2.position, d1.position, movedAll_append, movedAll_append]
    simp only [d2.slots, d1.slots, d2.cur, d1.cur, hdk, hdk1, hdk2, add_zero, hne1, hne2, hne21, if_false]
  case slots =>
    intro i
    simp only [d3.slots, d2.slots, d1.slots, d2.cur, d1.cur, hdk, hdk1, hdk2, add_zero]
    obtain h | h | h := hvisits i <;> simp [h]
  case cur => rw [d3.cur, d2.cur, d1.cur]

end Sys2Proof.Machine
end

section
/-! SUPPORT. The error codes (R250 to R256): which of them a step writes. -/

namespace Sys2Proof.Machine

/-- `err_code` in `t` is as in `s`, or is the code of an error other than NoMessage. -/
def keepsCodeOrRaises (s t : State) : Prop := t.errCode = s.errCode ∨ ∃ e ≠ ErrorKind.noMessage, t.errCode = e.code

theorem keepsCodeOrRaises_checkBuffer (s : State) : keepsCodeOrRaises s (checkBuffer s) := by
  obtain ⟨_, h⟩ | ⟨_, _, h⟩ | ⟨_, _, _, h⟩ | ⟨_, _, _, h⟩ := checkBuffer_cases s <;> rw [h]
  · exact .inl (enterDrain_errCode s)
  · exact .inr ⟨.noStartFlag, nofun, rfl⟩
  · exact .inr ⟨.noEndFlag, nofun, rfl⟩
  · exact .inl rfl

theorem keepsCodeOrRaises_scanOutcome {s t : State} (h : ScanOutcome s t) : keepsCodeOrRaises s t := by
  cases h with
  | reads => exact .inl (advance_errCode _)
  | fails e he => exact .inr ⟨e, by rintro rfl; simp at he, rfl⟩
  | delivers => exact .inl (by simp [State.reported])
  | skips => exact .inl (by simp [State.reported])
  | refuses => exact .inr ⟨.invalidCommand, nofun, rfl⟩

/-- The phase's own step raises errors in CHECK and SCAN only, and never NoMessage (R256). -/
theorem keepsCodeOrRaises_phaseStep {s t : State} (h : phaseStep s = .next t) : keepsCodeOrRaises s t := by
  obtain ⟨_, rfl⟩ | ⟨_, rfl⟩ | ⟨_, _, ho⟩ | ⟨_, rfl⟩ := phaseStep_outcomes h
  · exact .inl rfl
  · exact keepsCodeOrRaises_checkBuffer s
  · exact keepsCodeOrRaises_scanOutcome ho
  · exact .inl (drainStep_errCode s)

/-- The codes of R250 without that of NoMessage. -/
theorem code_of_ne_noMessage {e : ErrorKind} (h : e ≠ .noMessage) :
    e.code = 1 ∨ e.code = 2 ∨ e.code = 4 ∨ e.code = 5 ∨ e.code = 6 := by
  cases e with
  | noMessage => exact absurd rfl h
  | _ => decide

/-- Settles O27: RESET and START write 0, and the phase's own step keeps the code or raises an error other than
NoMessage. -/
theorem noMessageIsNeverRaised : Obligations.NoMessageIsNeverRaised := by
  intro s t h hne
  obtain ⟨_, ⟨_, rfl⟩ | ⟨_, _, _, rfl⟩ | ⟨_, hp⟩⟩ := step_entered h
  · exact .inl (resetState_errCode _)
  · exact .inl (startRun_errCode _ _)
  · obtain hkept | ⟨e, he, hcode⟩ := keepsCodeOrRaises_phaseStep hp
    · exact absurd hkept hne
    · rw [hcode]
      exact .inr (code_of_ne_noMessage he)

end Sys2Proof.Machine
end

section
/-! SUPPORT. The decoders and the encoder are inverse to each other (R70 to R84), one layer at a time. -/

namespace Sys2Proof

/-! ## The encodings of each layer -/

/-- The strobe vector {rst, start} in bits 1:0 (R84). -/
def strobeByte (rst start : Bool) : Byte :=
  if rst then (if start then 0x03 else 0x02) else (if start then 0x01 else 0x00)

theorem encode_strobeInstr (c : Config) (rst start : Bool) (len : Nat) :
    encode c (strobeInstr rst start len) = [strobeByte rst start] := by
  cases rst <;> cases start <;> rfl

/-- A vector with nothing above bits 1:0 is the vector of these two bits. -/
theorem strobeByte_bits : ∀ b : Byte, b &&& 0xFC = 0x00 → strobeByte (b.getLsbD 1) (b.getLsbD 0) = b := by decide

theorem decode_strobeByte (c : Config) (rst start : Bool) (len : Nat) (rest : List Byte) :
    decode c (.strobe len) (strobeByte rst start :: rest) = .ok (strobeInstr rst start len, rest) := by
  cases rst <;> cases start <;> rfl

/-- Each control class is put in place bit by bit (R75), so no bit of the byte is lost. -/
theorem encode_controlClass (c : Config) (b : Byte) : encode c (controlClass b).toInstr = [b] := by
  have hstd : ∀ b : Byte, encode Config.std (controlClass b).toInstr = [b] := by decide
  have hany : ∀ k : ControlClass, encode c k.toInstr = encode Config.std k.toInstr := by rintro ⟨⟩ <;> rfl
  rw [hany, hstd]

theorem controlClass_iFrame : ∀ (g : BitVec 4) (q : BitVec 3), controlClass (q ++ g ++ 0#1) = .iFrame g q := by
  decide

theorem controlClass_encodeSupervisory (g : BitVec 2) (q : BitVec 3) :
    controlClass (encodeSupervisory 0#2 g q) = .rr g q ∧ controlClass (encodeSupervisory 1#2 g q) = .rnr g q ∧
      controlClass (encodeSupervisory 2#2 g q) = .rej g q ∧
      controlClass (encodeSupervisory 3#2 g q) = .srej g q := by
  decide +revert

/-! ## Decoding an encoding -/

section
variable {c : Config} {i : Instr}

theorem decode_encode_raw (hc : c.wf = true) (hi : i.wf c = true) {e o : Bool} (hl : i.inLayer (.raw e o) = true)
    (rest : List Byte) : decode c (.raw e o) (encode c i ++ rest) = .ok (i, rest) := by
  have hne : c.flagByte ≠ c.escByte := by simp_all [Config.wf]
  cases i with
  | flagBoundary =>
    obtain rfl : o = false := by simpa [Instr.inLayer] using hl
    simp [encode, decode, rawClass_flagByte, RawClass.toInstr]
  | flagClose =>
    obtain rfl : o = true := hl
    simp [encode, decode, rawClass_flagByte, RawClass.toInstr]
  | esc =>
    obtain rfl : e = false := by simpa [Instr.inLayer] using hl
    simp [encode, decode, rawClass_escByte hne, RawClass.toInstr]
  | escaped b =>
    obtain rfl : e = true := hl
    have hf : b ≠ c.flagByte := by simpa [Instr.wf] using hi
    simp [encode, decode, rawClass_escaped hf, RawClass.toInstr]
  | lit b =>
    obtain rfl : e = false := by simpa [Instr.inLayer] using hl
    obtain ⟨hf, he⟩ : b ≠ c.flagByte ∧ b ≠ c.escByte := by simpa [Instr.wf] using hi
    simp [encode, decode, rawClass_lit hf he, RawClass.toInstr]
  | _ => exact nomatch hl

theorem decode_encode_pair (hi : i.wf c = true) (hl : i.inLayer .pair = true) (rest : List Byte) :
    decode c .pair (encode c i ++ rest) = .ok (i, rest) := by
  cases i with
  | escPair b =>
    have hf : b ≠ c.flagByte := by simpa [Instr.wf] using hi
    simp [encode, decode, hf]
  | _ => exact nomatch hl

theorem decode_encode_control (hl : i.inLayer .control = true) (rest : List Byte) :
    decode c .control (encode c i ++ rest) = .ok (i, rest) := by
  cases i with
  | iFrame g q => simp [encode, decode, controlClass_iFrame, ControlClass.toInstr]
  | rr g q => simp [encode, decode, controlClass_encodeSupervisory, ControlClass.toInstr]
  | rnr g q => simp [encode, decode, controlClass_encodeSupervisory, ControlClass.toInstr]
  | rej g q => simp [encode, decode, controlClass_encodeSupervisory, ControlClass.toInstr]
  | srej g q => simp [encode, decode, controlClass_encodeSupervisory, ControlClass.toInstr]
  | _ => exact nomatch hl

/-- The bytes of R82's table name their commands, and no other byte names one (R83). -/
theorem decode_encode_command (hc : c.wf = true) (hi : i.wf c = true) (hl : i.inLayer .command = true)
    (hne : encode c i ≠ []) (rest : List Byte) : decode c .command (encode c i ++ rest) = .ok (i, rest) := by
  have hvalid (k : Command) : decode c .command ([c.commandByte k] ++ rest) = .ok (k.toInstr, rest) := by
    simp [decode, commandClass, commandOf_commandByte hc, CommandClass.toInstr]
  cases i with
  | up => exact hvalid .up
  | down => exact hvalid .down
  | right => exact hvalid .right
  | left => exact hvalid .left
  | invalidCommand field =>
    cases field with
    | none => exact absurd rfl hne
    | some b =>
      have hnone : commandOf c b = none := by
        simp_all [Instr.wf, commandOf]
      simp [encode, decode, commandClass, hnone, CommandClass.toInstr]
  | _ => exact nomatch hl

theorem decode_encode_strobe {len : Nat} (hl : i.inLayer (.strobe len) = true) (rest : List Byte) :
    decode c (.strobe len) (encode c i ++ rest) = .ok (i, rest) := by
  cases i with
  | reset start => cases start <;> rfl
  | start n =>
    obtain rfl : len = n := by simpa [Instr.inLayer] using hl
    rfl
  | noStrobe => rfl
  | _ => exact nomatch hl

/-- The form with no bytes is the missing payload byte (R83), and it belongs to the command layer. -/
theorem decode_of_encode_eq_nil {l : Layer} (hl : i.inLayer l = true) (hnil : encode c i = []) :
    decode c l [] = .ok (i, []) := by
  cases i with
  | invalidCommand field =>
    cases field with
    | none => cases l with
      | command => rfl
      | _ => exact nomatch hl
    | some b => exact nomatch hnil
  | _ => exact nomatch hnil

theorem decode_encode_append {l : Layer} (hc : c.wf = true) (hi : i.wf c = true) (hl : i.inLayer l = true)
    (hne : encode c i ≠ []) (rest : List Byte) : decode c l (encode c i ++ rest) = .ok (i, rest) := by
  cases l with
  | raw e o => exact decode_encode_raw hc hi hl rest
  | pair => exact decode_encode_pair hi hl rest
  | control => exact decode_encode_control hl rest
  | command => exact decode_encode_command hc hi hl hne rest
  | strobe len => exact decode_encode_strobe hl rest

end

/-- Settles O35: `decode_encode_append`, and `decode_of_encode_eq_nil` for the form with no bytes. -/
theorem decodeOfEncodeIsTheForm : Obligations.DecodeOfEncodeIsTheForm := by
  refine fun c i l hc hi hl => ⟨?_, decode_encode_append hc hi hl⟩
  by_cases hnil : encode c i = []
  · rw [hnil, decode_of_encode_eq_nil hl hnil]
  · simpa using decode_encode_append hc hi hl hnil []

/-! ## Encoding what was decoded -/

/-- `i` is a well-formed form of the layer `l`, and its bytes followed by `rest` are `bytes`. -/
def readsAs (c : Config) (l : Layer) (i : Instr) (rest bytes : List Byte) : Prop :=
  i.inLayer l = true ∧ i.wf c = true ∧ encode c i ++ rest = bytes

section
variable (c : Config) (b : Byte) (rest : List Byte)

/-- The rows of R71's table. -/
theorem readsAs_rawClass (e o : Bool) : readsAs c (.raw e o) (rawClass c e o b).toInstr rest (b :: rest) := by
  by_cases hf : b = c.flagByte
  · subst hf
    rw [rawClass_flagByte]
    cases o <;> exact ⟨rfl, rfl, rfl⟩
  · cases e with
    | true =>
      rw [rawClass_escaped hf]
      exact ⟨rfl, bne_iff_ne.2 hf, rfl⟩
    | false =>
      by_cases he : b = c.escByte
      · subst he
        rw [rawClass_escByte (Ne.symm hf)]
        exact ⟨rfl, rfl, rfl⟩
      · rw [rawClass_lit hf he]
        exact ⟨rfl, by simp [RawClass.toInstr, Instr.wf, hf, he], rfl⟩

theorem readsAs_controlClass : readsAs c .control (controlClass b).toInstr rest (b :: rest) := by
  have hform : ∀ k : ControlClass, k.toInstr.inLayer .control = true ∧ k.toInstr.wf c = true := by
    rintro ⟨⟩ <;> exact ⟨rfl, rfl⟩
  obtain ⟨hl, hi⟩ := hform (controlClass b)
  exact ⟨hl, hi, by rw [encode_controlClass]; rfl⟩

theorem readsAs_commandClass : readsAs c .command (commandClass c (some b)).toInstr rest (b :: rest) := by
  cases hk : commandOf c b with
  | some k =>
    have hclass : commandClass c (some b) = .valid k := commandClass_eq_valid.2 ⟨b, rfl, hk⟩
    rw [hclass, commandByte_of_commandOf hk]
    cases k <;> exact ⟨rfl, rfl, rfl⟩
  | none =>
    have hno : ∀ k, b ≠ c.commandByte k := fun k h => by
      obtain ⟨k', hk'⟩ := (exists_commandOf_iff c b).2 ⟨k, h⟩
      simp [hk] at hk'
    have hwf : (Instr.invalidCommand (some b)).wf c = true := by
      simp only [Instr.wf, Bool.and_eq_true, bne_iff_ne]
      exact ⟨⟨⟨hno .up, hno .down⟩, hno .right⟩, hno .left⟩
    have hclass : commandClass c (some b) = .invalid (some b) := by simp [commandClass, hk]
    rw [hclass]
    exact ⟨rfl, hwf, rfl⟩

variable {c}

theorem readsAs_strobeInstr {len : Nat} (hlen : len < 2 ^ c.lenW) (rst start : Bool) :
    readsAs c (.strobe len) (strobeInstr rst start len) rest (strobeByte rst start :: rest) := by
  refine ⟨?_, ?_, by rw [encode_strobeInstr]; rfl⟩
  · cases rst <;> cases start <;> simp [strobeInstr, Instr.inLayer]
  · cases rst <;> cases start <;> simp [strobeInstr, Instr.wf, hlen]

end

section
variable {c : Config} {bytes rest : List Byte} {i : Instr}

/-- The pair decoder accepts ESC_BYTE and a byte that is no flag, and nothing else (R72). -/
theorem readsAs_of_decode_pair (h : decode c .pair bytes = .ok (i, rest)) : readsAs c .pair i rest bytes := by
  match bytes with
  | [] => exact nomatch h
  | [b] =>
    simp only [decode] at h
    split_ifs at h
  | e :: b :: tail =>
    simp only [decode] at h
    split_ifs at h with he hf
    cases h
    exact ⟨rfl, bne_iff_ne.2 hf, by rw [he]; rfl⟩

/-- The strobe decoder accepts a vector of two bits and nothing else (R84). -/
theorem readsAs_of_decode_strobe {len : Nat} (hlen : len < 2 ^ c.lenW)
    (h : decode c (.strobe len) bytes = .ok (i, rest)) : readsAs c (.strobe len) i rest bytes := by
  match bytes with
  | [] => exact nomatch h
  | b :: tail =>
    simp only [decode] at h
    split_ifs at h with hb
    cases h
    have hreads := readsAs_strobeInstr rest hlen (b.getLsbD 1) (b.getLsbD 0)
    rwa [strobeByte_bits b hb] at hreads

end

/-- Settles O36: in each layer the bytes that the decoder accepts are those of the form it answers. -/
theorem encodeOfDecodeIsTheBytes : Obligations.EncodeOfDecodeIsTheBytes := by
  intro c l bytes rest i _ hlen h
  cases l with
  | raw e o =>
    match bytes with
    | [] => exact nomatch h
    | b :: tail => cases h; exact readsAs_rawClass c b rest e o
  | pair => exact readsAs_of_decode_pair h
  | control =>
    match bytes with
    | [] => exact nomatch h
    | b :: tail => cases h; exact readsAs_controlClass c b rest
  | command =>
    match bytes with
    | [] => cases h; exact ⟨rfl, rfl, rfl⟩
    | b :: tail => cases h; exact readsAs_commandClass c b rest
  | strobe len => exact readsAs_of_decode_strobe (hlen len rfl) h

/-- Settles O34: on a given word the decoder computes. -/
theorem wordsOfTheSpecDecode : Obligations.WordsOfTheSpecDecode :=
  ⟨rfl, rfl, rfl, rfl, rfl, rfl⟩

end Sys2Proof
end

section
/-! SUPPORT. The invariants by the step (R40), and what holds along a run besides (R24, R150, R161, R183): one rule per
operation of the state, up to the step. -/

namespace Sys2Proof.Machine

/-- Settles O49: `Inv` is inductive. -/
theorem stepKeepsTheInvariants : Obligations.StepKeepsTheInvariants := inv_step

/-! ## The states that `RunInv` says little of -/

section
variable {s t : State}

/-- In IDLE and ERROR only the cursor is bounded. -/
theorem runInv_of_stopped (hp : s.phase = .idle ∨ s.phase = .error) (hptr : s.ptr ≤ s.len) : RunInv s := by
  obtain hp | hp := hp <;>
    exact
      { flagEnds := by simp [hp], frameClosed := by simp [hp], drainedSlots := by simp [hp],
        windowEmpty := by simp [hp], cursorInside := hptr }

theorem runInv_resetWith (c : Config) (m : Memory) (ins : List HostIn) : RunInv (State.resetWith c m ins) :=
  runInv_of_stopped (.inl rfl) (Nat.le_refl 0)

theorem runInv_startRun (len : Nat) (s : State) : RunInv (startRun len s) :=
  { flagEnds := nofun, frameClosed := fun _ => rfl, drainedSlots := nofun, windowEmpty := nofun,
    cursorInside := Nat.zero_le len }

/-- DRAIN is entered with the frame closed and no slot drained (R161). -/
theorem runInv_enterDrain (hf : s.fr = Frame.fresh s.cfg) (hptr : s.ptr ≤ s.len) : RunInv (enterDrain s) :=
  { flagEnds := nofun, frameClosed := fun _ => hf, drainedSlots := fun _ j hj => absurd hj (Fin.not_lt_zero j),
    windowEmpty := nofun, cursorInside := hptr }

theorem runInv_scan (hp : s.phase = .scan)
    (hends : s.ibuf.read 0 = s.cfg.flagByte ∧ s.ibuf.read (s.len - 1) = s.cfg.flagByte) (hptr : s.ptr ≤ s.len) :
    RunInv s :=
  { flagEnds := fun _ => hends, frameClosed := by simp [hp], drainedSlots := by simp [hp],
    windowEmpty := by simp [hp], cursorInside := hptr }

/-! ## One rule per operation -/

/-- The host's writes touch no buffer that SCAN reads, since they land while not busy (R53). -/
theorem RunInv.entered (h : RunInv s) (hibuf : s.busy = true → s.entered.ibuf = s.ibuf) : RunInv s.entered :=
  { flagEnds := fun hp => by
      rw [hibuf ((busy_iff s).2 (.inr (.inl hp)))]
      exact h.flagEnds hp
    frameClosed := h.frameClosed
    drainedSlots := h.drainedSlots
    windowEmpty := h.windowEmpty
    cursorInside := h.cursorInside }

theorem RunInv.checkBuffer (h : RunInv s) (hp : s.phase = .check) : RunInv (checkBuffer s) := by
  have hf := h.frameClosed (.inl hp)
  have hptr := h.cursorInside
  obtain ⟨_, e⟩ | ⟨_, _, e⟩ | ⟨_, _, _, e⟩ | ⟨_, hfirst, hlast, e⟩ := checkBuffer_cases s <;> rw [e]
  · exact runInv_enterDrain hf hptr
  · exact runInv_of_stopped (.inr rfl) hptr
  · exact runInv_of_stopped (.inr rfl) hptr
  · exact runInv_scan rfl ⟨hfirst, hlast⟩ hptr

/-- A SCAN step that raises nothing: DRAIN is entered at the last address, where the frame must be closed. -/
theorem runInv_advance (hp : s.phase = .scan)
    (hends : s.ibuf.read 0 = s.cfg.flagByte ∧ s.ibuf.read (s.len - 1) = s.cfg.flagByte) (hin : s.ptr < s.len)
    (hf : s.ptr + 1 = s.len → s.fr = Frame.fresh s.cfg) : RunInv (advance s) := by
  unfold advance
  dsimp only
  split_ifs with hlast
  · exact runInv_enterDrain (hf hlast) hin
  · exact runInv_scan hp hends hin

theorem RunInv.scanOutcome (h : RunInv s) (hp : s.phase = .scan) (hin : s.ptr < s.len) (ho : ScanOutcome s t) :
    RunInv t := by
  have hends := h.flagEnds hp
  cases ho with
  | reads =>
    refine runInv_advance hp hends hin fun hlast => feed_flag ?_
    rw [← hends.2, ← hlast, Nat.add_sub_cancel]
  | fails => exact runInv_of_stopped (.inr rfl) hin.le
  | delivers k =>
    refine runInv_advance ?_ ?_ ?_ fun _ => ?_
    · simpa [State.reported] using hp
    · simpa [State.reported] using hends
    · simpa [State.reported] using hin
    · simp
  | skips => exact runInv_advance hp hends hin fun _ => rfl
  | refuses => exact runInv_of_stopped (.inr rfl) hin.le

/-- The slots that DRAIN has visited after its last step, from any cursor: all of them. -/
theorem eq_add_two_or_drained : ∀ c i : Fin 3, i = c + 2 ∨ ∃ j, j < 2 ∧ i = c + j := by decide

theorem eq_or_lt_of_lt_add_one : ∀ {j k : Fin 3}, k ≠ 2 → j < k + 1 → j = k ∨ j < k := by decide

theorem RunInv.drainStep (h : RunInv s) (hp : s.phase = .drain) : RunInv (drainStep s) := by
  have hdrained := h.drainedSlots hp
  have hphase := drainStep_phase s
  have hslots : ∀ i, (Machine.drainStep s).win.slot i = if i = s.win.cur + s.dk then none else s.win.slot i :=
    fun i => by rw [drainStep_win, slot_setSlot]
  have hfr : (Machine.drainStep s).fr = Frame.fresh (Machine.drainStep s).cfg := by
    rw [drainStep_fr, (sameHostSide_drainStep s).1, h.frameClosed (.inr (.inl hp))]
  have hptr : (Machine.drainStep s).ptr ≤ (Machine.drainStep s).len := by
    rw [drainStep_ptr, drainStep_len]
    exact h.cursorInside
  by_cases hdk : s.dk = 2
  · rw [if_pos hdk] at hphase
    refine ⟨by simp [hphase], fun _ => hfr, by simp [hphase], fun _ i => ?_, hptr⟩
    rw [hslots, hdk]
    obtain hi | ⟨j, hj, rfl⟩ := eq_add_two_or_drained s.win.cur i
    · exact if_pos hi
    · exact ite_eq_left_iff.2 fun _ => hdrained j (hdk ▸ hj)
  · rw [if_neg hdk, hp] at hphase
    refine ⟨by simp [hphase], fun _ => hfr, fun _ j hj => ?_, by simp [hphase], hptr⟩
    rw [drainStep_dk, if_neg hdk] at hj
    rw [hslots, drainStep_win, setSlot_cur]
    obtain rfl | hj := eq_or_lt_of_lt_add_one hdk hj
    · exact if_pos rfl
    · exact ite_eq_left_iff.2 fun _ => hdrained j hj

theorem RunInv.phaseStep (h : RunInv s) (hstep : phaseStep s = .next t) : RunInv t := by
  obtain ⟨_, rfl⟩ | ⟨hp, rfl⟩ | ⟨hp, hin, ho⟩ | ⟨hp, rfl⟩ := phaseStep_outcomes hstep
  · exact h
  · exact h.checkBuffer hp
  · exact h.scanOutcome hp hin ho
  · exact h.drainStep hp

end

/-- Settles O51: RESET and START establish `RunInv`, and the phase's own step keeps it. -/
theorem stepKeepsTheRunInvariant : Obligations.StepKeepsTheRunInvariant := by
  intro s t h hstep
  obtain ⟨hibuf, ⟨_, rfl⟩ | ⟨_, _, _, rfl⟩ | ⟨_, hp⟩⟩ := step_entered hstep
  · exact runInv_resetWith _ _ _
  · exact runInv_startRun _ _
  · exact (h.entered hibuf).phaseStep hp

/-- Settles O48: RESET establishes both invariants and leaves IBUF as it is. -/
theorem resetStateMeetsTheInvariants : Obligations.ResetStateMeetsTheInvariants :=
  fun c m ins hc hm => ⟨inv_resetWith hc m ins, runInv_resetWith c m ins, hm⟩

end Sys2Proof.Machine
end

section
/-! SUPPORT. The host's side of a step (R51 to R60, R280, R287): RESET, the duties that stop the model, and what the
host's writes make of IBUF. -/

namespace Sys2Proof.Machine

/-! ## RESET (R280, R281) -/

/-- The registers after RESET. -/
theorem resetState_effect (s : State) :
    (resetState s).phase = .idle ∧ (resetState s).len = 0 ∧ (resetState s).ptr = 0 ∧ (resetState s).dk = 0 ∧
      (resetState s).errCode = 0 ∧ frameCleared s.cfg (resetState s).fr ∧ freshRun (resetState s) ∧
      outputsZero (resetState s) ∧ sameWorld s (resetState s) :=
  ⟨rfl, rfl, rfl, rfl, rfl, frameCleared_fresh s.cfg, ⟨rfl, rfl, rfl, rfl, rfl, rfl⟩,
    ⟨rfl, rfl, rfl, rfl, rfl, rfl, rfl⟩, rfl, rfl, fun _ => rfl⟩

/-- RESET takes priority over START and every phase (R221). -/
theorem step_of_rst {s u : State} (hr : s.input.rst = true) (hu : hostWrites s.input s.dropInput = .next u) :
    step s = .next (resetState (defaultOutputs u)) := by
  rw [step_of_hostWrites hu, State.strobe, hr]
  rfl

/-- Settles O1: RESET is `resetState`, on any state and, once the host's writes have landed, in any step. -/
theorem resetWritesEveryRegister : Obligations.ResetWritesEveryRegister := by
  refine fun st s => ⟨⟨_, rfl, resetState_effect s⟩, fun u hr hu => ⟨_, step_of_rst hr hu, ?_⟩⟩
  have hcfg : u.cfg = s.cfg := by rw [eq_of_hostWrites_dropInput hu]
  have h := resetState_effect (defaultOutputs u)
  rwa [defaultOutputs_cfg, hcfg] at h

/-! ## The stops of the host port (R53, R58, R232, R287) -/

section
variable {s : State}

theorem step_of_hostWrites_fault {r : Fault} (h : hostWrites s.input s.dropInput = .fault r) : step s = .fault r := by
  rw [step, h]

/-- Of writes that come while not busy and not in an accepted START step, the addresses decide. -/
theorem hostWrites_of_not_busy (hw : s.input.writes ≠ []) (hb : s.busy = false)
    (hs : s.input.start = true → s.input.rst = true) :
    hostWrites s.input s.dropInput =
      if s.input.writes.all (fun w => w.1 < s.cfg.ibufDepth)
      then .next { s.dropInput with ibuf := s.ibuf.writeAll s.input.writes } else .fault .hostWriteOutsideIbuf := by
  have hbusy : s.dropInput.busy = false := hb
  have hstart : (s.input.start && !s.input.rst) = false := by simpa using hs
  rw [hostWrites, if_neg hw, hbusy, hstart]
  rfl

end

/-- Settles O4: the tests of START and of the host port, in their order. -/
theorem brokenHostDutiesStop : Obligations.BrokenHostDutiesStop := by
  refine fun s => ⟨fun len hb hlen => ?_, fun hw hb => ?_, fun hw hb hs hr => ?_, fun hb hs ⟨w, hw, hout⟩ => ?_⟩
  · change execStart len s = _
    rw [execStart, if_neg (by simp [hb]), if_neg (Nat.not_le.2 hlen)]
  · have hbusy : s.dropInput.busy = true := hb
    exact step_of_hostWrites_fault (by rw [hostWrites, if_neg hw, if_pos hbusy])
  · have hbusy : s.dropInput.busy = false := hb
    exact step_of_hostWrites_fault (by rw [hostWrites, if_neg hw, hbusy, hs, hr]; rfl)
  · have hoff : s.input.writes.all (fun w => w.1 < s.cfg.ibufDepth) = false :=
      List.all_eq_false.2 ⟨w, hw, fun h => Nat.not_lt.2 hout (of_decide_eq_true h)⟩
    exact step_of_hostWrites_fault (by rw [hostWrites_of_not_busy (List.ne_nil_of_mem hw) hb hs, hoff]; rfl)

/-! ## A host that keeps its duties (R52, R287) -/

section
variable {s : State}

/-- The host port passes on the writes of a host that keeps its duties. -/
theorem hostWrites_of_dutiesKept (h : dutiesKept s) : ∃ u, hostWrites s.input s.dropInput = .next u := by
  obtain ⟨hduty, -⟩ := h
  by_cases hw : s.input.writes = []
  · exact ⟨_, hostWrites_nil _ hw⟩
  · obtain ⟨hb, hs, hinside⟩ := hduty hw
    have hall : s.input.writes.all (fun w => w.1 < s.cfg.ibufDepth) = true :=
      List.all_eq_true.2 fun w hin => decide_eq_true (hinside w hin)
    exact ⟨_, by rw [hostWrites_of_not_busy hw hb hs, if_pos hall]⟩

/-- A raw byte of any class has a next state. -/
theorem execRaw_answers (k : RawClass) (s : State) : ∃ t, execRaw k s = .next t := by
  cases k <;> exact ⟨_, rfl⟩

/-- R40 item 9 is all that the phase's own step needs. -/
theorem phaseStep_answers (h : s.phase = .scan → s.ptr < s.len) : ∃ t, phaseStep s = .next t := by
  cases hp : s.phase with
  | scan =>
    obtain ⟨t, ht⟩ := execRaw_answers s.rawClass s
    exact ⟨t, by simp only [phaseStep, hp, scanStep, if_pos (h hp), ht]⟩
  | _ => simp [phaseStep, hp]

end

/-- Settles O52: of the host's duties the host port and START test the ones that are kept, and the phase's own step
reads inside the buffer by R40 item 9. -/
theorem dutifulHostIsNeverStopped : Obligations.DutifulHostIsNeverStopped := by
  intro s hinv hduty
  obtain ⟨u, hu⟩ := hostWrites_of_dutiesKept hduty
  have hb := busy_of_hostWrites_dropInput hu
  have hu' := eq_of_hostWrites_dropInput hu
  rw [step_of_hostWrites hu]
  have hown : ∃ t, exec .noStrobe (defaultOutputs u) = .next t :=
    phaseStep_answers fun hp => by
      rw [hu'] at hp ⊢
      exact hinv.legal.scanInside hp
  obtain ⟨_, e⟩ | ⟨hr, hs, e⟩ | ⟨_, _, e⟩ := strobe_cases s <;> rw [e]
  · exact ⟨_, rfl⟩
  · cases hbusy : s.busy with
    | true => rwa [exec_start_of_busy (hb.trans hbusy)]
    | false =>
      refine ⟨_, exec_start_of_not_busy (hb.trans hbusy) ?_⟩
      rw [hu']
      exact hduty.2 hr hs hbusy
  · exact hown

/-! ## Reads after the host's writes (R60) -/

section
variable {m : Memory}

theorem Memory.writeAll_append (m : Memory) (ws ws' : List Host.Cell) :
    m.writeAll (ws ++ ws') = (m.writeAll ws).writeAll ws' :=
  List.foldl_append

theorem Memory.read_writeAll_of_not_written (hm : m.wf) {a : Nat} {ws : List Host.Cell} (ha : ∀ w ∈ ws, w.1 ≠ a) :
    (m.writeAll ws).read a = m.read a := by
  induction ws generalizing m with
  | nil => rfl
  | cons w ws ih =>
    obtain ⟨hw, hws⟩ := List.forall_mem_cons.1 ha
    rw [Memory.writeAll_cons, ih (Memory.wf_write hm w.1 w.2) hws, Memory.read_write hm, if_neg hw.symm]

theorem Memory.read_writeAll_last (hm : m.wf) (ws : List Host.Cell) {a : Nat} {b : Byte} {ws' : List Host.Cell}
    (ha : ∀ w ∈ ws', w.1 ≠ a) : (m.writeAll (ws ++ (a, b) :: ws')).read a = b := by
  have hws := Memory.wf_writeAll hm ws
  rw [Memory.writeAll_append, Memory.writeAll_cons, Memory.read_writeAll_of_not_written (Memory.wf_write hws a b) ha,
    Memory.read_write hws, if_pos rfl]

end

/-- Settles O25: IBUF after a step is IBUF with the host's writes in order. -/
theorem readsGiveTheLastHostWrite : Obligations.ReadsGiveTheLastHostWrite := by
  intro s t h hm
  have hibuf : t.ibuf = s.ibuf.writeAll s.input.writes := (onlyTheHostWritesIbuf s t h).1
  rw [hibuf]
  refine ⟨Memory.wf_writeAll hm _, fun ws a b ws' hws ha => ?_, fun a ha => Memory.read_writeAll_of_not_written hm ha⟩
  rw [hws]
  exact Memory.read_writeAll_last hm ws ha

end Sys2Proof.Machine
end

section
/-! SUPPORT. Where a busy phase goes (R223 to R226), and what the error entry of a step writes (R252, R259). -/

namespace Sys2Proof.Machine

section
variable {s t : State}

theorem checkBuffer_phase (s : State) :
    (checkBuffer s).phase = .drain ∨ (checkBuffer s).phase = .error ∨ (checkBuffer s).phase = .scan := by
  obtain ⟨_, e⟩ | ⟨_, _, e⟩ | ⟨_, _, _, e⟩ | ⟨_, _, _, e⟩ := checkBuffer_cases s <;> rw [e]
  · exact .inl rfl
  · exact .inr (.inl rfl)
  · exact .inr (.inl rfl)
  · exact .inr (.inr rfl)

theorem scanOutcome_len (h : ScanOutcome s t) : t.len = s.len := by
  cases h with
  | reads => exact advance_len _
  | fails => rfl
  | delivers => simp [State.reported]
  | skips => simp [State.reported]
  | refuses => rfl

/-- The phase's own step of a busy phase. -/
theorem phaseStep_busy (hb : s.busy = true) (h : phaseStep s = .next t) :
    (s.phase = .check ∧ t = checkBuffer s) ∨ (s.phase = .scan ∧ ScanOutcome s t) ∨
      (s.phase = .drain ∧ t = drainStep s) := by
  obtain ⟨hp, _⟩ | hcheck | ⟨hp, _, ho⟩ | hdrain := phaseStep_outcomes h
  · simp [(not_busy_iff s).2 hp] at hb
  · exact .inl hcheck
  · exact .inr (.inl ⟨hp, ho⟩)
  · exact .inr (.inr hdrain)

/-- `t` is where a busy phase goes from `s`: LEN is kept, the cursor does not go back, and the next phase is one that
R224, R225 and R226 name. -/
def followsSequence (s t : State) : Prop :=
  t.len = s.len ∧ s.ptr ≤ t.ptr ∧
    (s.phase = .check → t.ptr = s.ptr ∧ (t.phase = .drain ∨ t.phase = .error ∨ t.phase = .scan)) ∧
    (s.phase = .scan → t.phase = .scan ∨ t.phase = .drain ∨ t.phase = .error) ∧
    (s.phase = .drain → t.ptr = s.ptr ∧ ((s.dk = 2 → t.phase = .done) ∧ (s.dk ≠ 2 → t.phase = .drain)))

theorem followsSequence_checkBuffer (hp : s.phase = .check) : followsSequence s (checkBuffer s) := by
  obtain ⟨hlen, hptr, _, _⟩ := checkBuffer_keeps_run s
  exact ⟨hlen, hptr.ge, fun _ => ⟨hptr, checkBuffer_phase s⟩, by simp [hp], by simp [hp]⟩

theorem followsSequence_scanOutcome (hp : s.phase = .scan) (ho : ScanOutcome s t) : followsSequence s t := by
  refine ⟨scanOutcome_len ho, ?_, by simp [hp], fun _ => ?_, by simp [hp]⟩ <;>
    obtain ⟨herr, hptr⟩ | ⟨hptr, hnext⟩ := scanOutcome_cursor hp ho
  · exact hptr.ge
  · exact hptr ▸ Nat.le_succ _
  · exact .inr (.inr herr)
  · rw [hnext]
    split_ifs
    · exact .inr (.inl rfl)
    · exact .inl rfl

theorem followsSequence_drainStep (hp : s.phase = .drain) : followsSequence s (drainStep s) := by
  have hptr := drainStep_ptr s
  refine ⟨drainStep_len s, hptr.ge, by simp [hp], by simp [hp], fun _ => ⟨hptr, fun hdk => ?_, fun hdk => ?_⟩⟩
  · rw [drainStep_phase, if_pos hdk]
  · rw [drainStep_phase, if_neg hdk, hp]

theorem phaseStep_followsSequence (hb : s.busy = true) (h : phaseStep s = .next t) : followsSequence s t := by
  obtain ⟨hp, rfl⟩ | ⟨hp, ho⟩ | ⟨hp, rfl⟩ := phaseStep_busy hb h
  · exact followsSequence_checkBuffer hp
  · exact followsSequence_scanOutcome hp ho
  · exact followsSequence_drainStep hp

end

/-- Settles O30: the step is the phase's own step of the entered state, which has the registers of `s`. -/
theorem busyPhasesFollowTheSequence : Obligations.BusyPhasesFollowTheSequence :=
  fun s _ hb hr h => phaseStep_followsSequence (s := s.entered) hb (phaseStep_entered_of_busy h hb hr)

/-! ## The error entry (R252, R259) -/

/-- `t` is the error entry of `s`: after the frame report with InvalidCommand (R158), on `s` itself with any other
error. -/
def entersError (s t : State) : Prop :=
  (∃ e ≠ ErrorKind.invalidCommand, t = raiseError e s) ∨ t = raiseError .invalidCommand s.reported

section
variable {s t : State}

theorem entersError_checkBuffer (ht : (checkBuffer s).phase = .error) : entersError s (checkBuffer s) := by
  obtain ⟨_, e⟩ | ⟨_, _, e⟩ | ⟨_, _, _, e⟩ | ⟨_, _, _, e⟩ := checkBuffer_cases s <;> rw [e] at ht ⊢
  · exact nomatch ht
  · exact .inl ⟨.noStartFlag, nofun, rfl⟩
  · exact .inl ⟨.noEndFlag, nofun, rfl⟩
  · exact nomatch ht

/-- A SCAN step that moves the cursor on does not end in ERROR. -/
theorem advance_phase_ne_error (hp : s.phase = .scan) : (advance s).phase ≠ .error := by
  rw [advance_phase, hp]
  split_ifs <;> exact nofun

theorem entersError_scanOutcome (hp : s.phase = .scan) (h : ScanOutcome s t) (ht : t.phase = .error) :
    entersError s t := by
  cases h with
  | reads => exact absurd ht (advance_phase_ne_error hp)
  | fails e he => exact .inl ⟨e, by rintro rfl; simp at he, rfl⟩
  | delivers => exact absurd ht (advance_phase_ne_error (by simpa [State.reported] using hp))
  | skips => exact absurd ht (advance_phase_ne_error hp)
  | refuses => exact .inr rfl

/-- DRAIN raises nothing (R226). -/
theorem drainStep_phase_ne_error (hp : s.phase = .drain) : (drainStep s).phase ≠ .error := by
  rw [drainStep_phase, hp]
  split_ifs <;> exact nofun

theorem phaseStep_error (hb : s.busy = true) (h : phaseStep s = .next t) (ht : t.phase = .error) :
    (s.phase = .check ∨ s.phase = .scan) ∧ entersError s t := by
  obtain ⟨hp, rfl⟩ | ⟨hp, ho⟩ | ⟨hp, rfl⟩ := phaseStep_busy hb h
  · exact ⟨.inl hp, entersError_checkBuffer ht⟩
  · exact ⟨.inr hp, entersError_scanOutcome hp ho ht⟩
  · exact absurd ht (drainStep_phase_ne_error hp)

theorem code_ne_zero (e : ErrorKind) : e.code ≠ 0 := by cases e <;> decide

theorem code_ne_six {e : ErrorKind} (h : e ≠ .invalidCommand) : e.code ≠ 6 := by
  cases e with
  | invalidCommand => exact absurd rfl h
  | _ => decide

end

/-- Settles O26: the step is the error entry of the entered state, whose outputs are 0, or of that state with its
report. -/
theorem errorEntryWritesOnlyTheError : Obligations.ErrorEntryWritesOnlyTheError := by
  intro s t hb hr h ht
  obtain ⟨hp, herr⟩ := phaseStep_error (s := s.entered) hb (phaseStep_entered_of_busy h hb hr) ht
  refine ⟨hp, ?_⟩
  obtain ⟨e, he, rfl⟩ | rfl := herr
  · exact ⟨code_ne_zero e, rfl, rfl, rfl, rfl, rfl, ⟨rfl, rfl⟩, rfl, rfl, rfl, fun h6 => absurd h6 (code_ne_six he),
      fun _ => ⟨rfl, rfl, rfl, rfl⟩⟩
  · exact ⟨code_ne_zero .invalidCommand, rfl, rfl, rfl, rfl, rfl, ⟨rfl, rfl⟩, rfl, rfl, rfl, fun _ => rfl,
      fun h6 => absurd rfl h6⟩

end Sys2Proof.Machine
end

section
/-! SUPPORT. The decoded forms (R72, R131 to R136, R158) and the step that runs them (R84, R153, R155, R181, R183). -/

namespace Sys2Proof

/-- The command layer reads a Data frame's whole command field (R83). -/
theorem decode_commandField (c : Config) (field : Option Byte) :
    decode c .command field.toList = .ok ((commandClass c field).toInstr, []) := by
  cases field <;> rfl

end Sys2Proof

namespace Sys2Proof.Machine

/-! ## The forms as operations of the state -/

theorem exec_rawClass (k : RawClass) (s : State) : exec k.toInstr s = execRaw k s := by
  cases k <;> rfl

theorem exec_controlClass (k : ControlClass) (s : State) : exec k.toInstr s = .next ((closeClass k s).finish id) := by
  cases k <;> rfl

section
variable {s : State}

theorem exec_noStrobe_of_scan (hp : s.phase = .scan) (hin : s.ptr < s.len) :
    exec .noStrobe s = exec s.rawClass.toInstr s := by
  change phaseStep s = _
  simp only [phaseStep, hp, scanStep, if_pos hin, exec_rawClass]

/-- What the report of a frame writes (R127). -/
theorem report_effect (ty : FrameType) (q : BitVec 3) (s : State) :
    reportsFrame (frameTypeCode ty) q s (report ty q s) ∧ (report ty q s).fr = s.fr ∧ (report ty q s).win = s.win ∧
      samePosition s (report ty q s) ∧ sameEvent s (report ty q s) ∧ sameSequencer s (report ty q s) ∧
      sameWorld s (report ty q s) :=
  ⟨⟨rfl, rfl, rfl, rfl⟩, rfl, rfl, ⟨rfl, rfl⟩, ⟨rfl, rfl, rfl⟩, ⟨rfl, rfl, rfl, rfl, rfl⟩, rfl, rfl, fun _ => rfl⟩

/-- A push after the report releases the oldest entry of the window before it. -/
theorem push_report_releases (k : Command) (ty : FrameType) (q : BitVec 3) (s : State) :
    releasedSlot s.win.oldest s (push k (report ty q s)) := by
  apply releasedSlot_of_emitSlot
  · constructor <;> simp only [push_x, push_y, report_win] <;> cases s.win.oldest <;> rfl
  · simp only [sameEvent, push_out, report_win]
    cases s.win.oldest <;> exact ⟨rfl, rfl, rfl⟩

/-! ## The command field (R136) -/

theorem commandClass_of_commandByte {cfg : Config} {f : Frame} {k : Command} (hwf : cfg.wf = true)
    (hn : 5 ≤ f.n.toNat) (hk : f.cmdb = cfg.commandByte k) : commandClass cfg f.commandField = .valid k := by
  have hfield : f.commandField = some f.cmdb := if_pos hn
  exact commandClass_eq_valid.2 ⟨_, hfield, by rw [hk, commandOf_commandByte hwf]⟩

theorem commandByte_of_commandClass {cfg : Config} {f : Frame} {k : Command}
    (h : commandClass cfg f.commandField = .valid k) : 5 ≤ f.n.toNat ∧ f.cmdb = cfg.commandByte k := by
  obtain ⟨b, hb, hk⟩ := commandClass_eq_valid.1 h
  obtain ⟨hn, rfl⟩ : 5#3 ≤ f.n ∧ f.cmdb = b := by simpa [Frame.commandField] using hb
  exact ⟨hn, commandByte_of_commandOf hk⟩

end

/-! ## The control-byte and command-byte forms -/

/-- Settles O19: the form is `dataOutcome` after the report, and the command field decides. -/
theorem dataFrameFormPushesOrRaises : Obligations.DataFrameFormPushesOrRaises := by
  refine fun ign seq s hwf => ⟨fun k hn hk => ?_, fun hno => ?_⟩ <;>
    have hexec : exec (.iFrame ign seq) s = .next ((dataOutcome (report .data seq s)).finish id) := rfl
  · have hclass : commandClass (report .data seq s).cfg (report .data seq s).fr.commandField = .valid k :=
      commandClass_of_commandByte hwf hn hk
    rw [dataOutcome, hclass] at hexec
    refine ⟨_, hexec, pushedCommand_of_insert (push_report_releases k .data seq s) rfl, ?_, push_fr _ _, ?_, ?_⟩
    · exact sameReport_emitSlot s.win.oldest (report .data seq s)
    · simp [sameSequencer, Flow.finish]
    · simp [sameWorld, Flow.finish]
  · obtain ⟨k, hclass, _⟩ | ⟨_, _, hraise⟩ := dataOutcome_cases (report .data seq s)
    · obtain ⟨hn, hk⟩ := commandByte_of_commandClass hclass
      exact (hno.elim (fun h4 => by simp at hn; omega) fun h => h k hk).elim
    · rw [hraise] at hexec
      obtain ⟨herr, hfr, hwin, hpos, hev, _, hworld⟩ := raiseError_keeps .invalidCommand (report .data seq s)
      exact ⟨_, hexec, herr, (report_effect .data seq s).1, hfr, hwin, hpos, hev, hworld⟩

/-- Settles O20: each form is `report`, and its control byte has its class. -/
theorem supervisoryFormsOnlyReport : Obligations.SupervisoryFormsOnlyReport := by
  intro ign seq s i ty h
  obtain ⟨hrr, hrnr, hrej, hsrej⟩ := controlClass_encodeSupervisory ign seq
  simp only [List.mem_cons, Prod.mk.injEq, List.not_mem_nil, or_false] at h
  obtain ⟨rfl, rfl⟩ | ⟨rfl, rfl⟩ | ⟨rfl, rfl⟩ | ⟨rfl, rfl⟩ := h <;>
    exact ⟨⟨_, rfl, report_effect _ seq s⟩,
      by simp [encode, ← frameType_controlClass, hrr, hrnr, hrej, hsrej, ControlClass.frameType], rfl, rfl⟩

/-- Settles O22: the form is the error entry. -/
theorem invalidCommandRaises : Obligations.InvalidCommandRaises :=
  fun _ s => ⟨_, rfl, raiseError_keeps .invalidCommand s⟩

/-! ## What no form writes (R51, R53) -/

section
variable {s t u : State}

theorem sameHostSide.trans (h : sameHostSide s t) (h' : sameHostSide t u) : sameHostSide s u := by
  obtain ⟨hcfg, hinputs, hibuf⟩ := h
  obtain ⟨hcfg', hinputs', hibuf'⟩ := h'
  exact ⟨hcfg'.trans hcfg, hinputs'.trans hinputs, hibuf'.trans hibuf⟩

theorem sameWorld_of_sameHostSide (h : sameHostSide s t) : sameWorld s t := by
  obtain ⟨hcfg, hinputs, hibuf⟩ := h
  exact ⟨hcfg, hinputs, fun a => by rw [hibuf]⟩

theorem sameHostSide_advance (s : State) : sameHostSide s (advance s) :=
  ⟨advance_cfg s, advance_inputs s, advance_ibuf s⟩

theorem sameHostSide_push (k : Command) (s : State) : sameHostSide s (push k s) :=
  ⟨push_cfg k s, push_inputs k s, push_ibuf k s⟩

/-- The state that an operation leaves, whether it raised an error or not. -/
def Flow.state : Flow → State
  | .goes s => s
  | .raised s => s

/-- What remains of the step keeps what the operation kept. -/
theorem sameHostSide_finish {x : Flow} {f : State → State} (hf : ∀ v, sameHostSide v (f v))
    (h : sameHostSide s x.state) : sameHostSide s (x.finish f) := by
  cases x with
  | goes v => exact h.trans (hf v)
  | raised v => exact h

theorem sameHostSide_dataOutcome (s : State) : sameHostSide s (dataOutcome s).state := by
  obtain ⟨k, _, e⟩ | ⟨_, _, e⟩ := dataOutcome_cases s <;> rw [e]
  · exact sameHostSide_push k s
  · exact ⟨rfl, rfl, rfl⟩

theorem sameHostSide_closeClass (k : ControlClass) (s : State) : sameHostSide s (closeClass k s).state := by
  rw [closeClass_eq]
  split_ifs
  · exact sameHostSide_dataOutcome (report k.frameType k.seq s)
  · exact ⟨rfl, rfl, rfl⟩

theorem sameHostSide_closeFrame (s : State) : sameHostSide s (closeFrame s).state := by
  obtain ⟨_, e⟩ | ⟨_, _, e⟩ | ⟨_, _, e⟩ := closeFrame_cases s <;> rw [e]
  · exact ⟨rfl, rfl, rfl⟩
  · exact ⟨rfl, rfl, rfl⟩
  · exact sameHostSide_closeClass _ s

/-- The forms that a SCAN step runs. -/
theorem sameHostSide_rawForm {k : RawClass} (h : exec k.toInstr s = .next t) : sameHostSide s t := by
  cases k with
  | flagClose =>
    cases h
    exact sameHostSide_finish (fun v => sameHostSide_advance (frameReset v)) (sameHostSide_closeFrame s)
  | flagBoundary => cases h; exact sameHostSide_advance (frameReset s)
  | esc => cases h; exact sameHostSide_advance { s with fr := s.fr.escape }
  | escaped b => cases h; exact sameHostSide_advance { s with fr := s.fr.escaped s.cfg b }
  | lit b => cases h; exact sameHostSide_advance { s with fr := s.fr.literal s.cfg b }

theorem sameHostSide_controlForm {k : ControlClass} (h : exec k.toInstr s = .next t) : sameHostSide s t := by
  rw [exec_controlClass] at h
  cases h
  exact sameHostSide_finish (fun _ => ⟨rfl, rfl, rfl⟩) (sameHostSide_closeClass k s)

theorem sameHostSide_commandForm {k : Command} (h : exec k.toInstr s = .next t) : sameHostSide s t := by
  rw [exec_toInstr] at h
  cases h
  exact ⟨rfl, rfl, rfl⟩

theorem sameHostSide_exec {i : Instr} (h : exec i s = .next t) : sameHostSide s t := by
  cases i with
  | flagBoundary => exact sameHostSide_rawForm (k := .flagBoundary) h
  | flagClose => exact sameHostSide_rawForm (k := .flagClose) h
  | esc => exact sameHostSide_rawForm (k := .esc) h
  | escaped b => exact sameHostSide_rawForm (k := .escaped b) h
  | lit b => exact sameHostSide_rawForm (k := .lit b) h
  | escPair b =>
    have hesc : sameHostSide s (advance { s with fr := s.fr.escape }) := sameHostSide_rawForm (k := .esc) rfl
    exact hesc.trans (sameHostSide_rawForm (k := .escaped b) h)
  | iFrame g q => exact sameHostSide_controlForm (k := .iFrame g q) h
  | rr g q => exact sameHostSide_controlForm (k := .rr g q) h
  | rnr g q => exact sameHostSide_controlForm (k := .rnr g q) h
  | rej g q => exact sameHostSide_controlForm (k := .rej g q) h
  | srej g q => exact sameHostSide_controlForm (k := .srej g q) h
  | up => exact sameHostSide_commandForm (k := .up) h
  | down => exact sameHostSide_commandForm (k := .down) h
  | right => exact sameHostSide_commandForm (k := .right) h
  | left => exact sameHostSide_commandForm (k := .left) h
  | invalidCommand => cases h; exact ⟨rfl, rfl, rfl⟩
  | reset => cases h; exact ⟨rfl, rfl, rfl⟩
  | start len =>
    obtain ⟨_, hp⟩ | ⟨_, _, rfl⟩ := execStart_next h
    · exact sameHostSide_phaseStep hp
    · exact ⟨rfl, rfl, rfl⟩
  | noStrobe => exact sameHostSide_phaseStep h

end

/-- Settles O23: every form keeps what is the host's, one rule per layer. -/
theorem noFormWritesIbuf : Obligations.NoFormWritesIbuf :=
  fun _ _ _ h => sameWorld_of_sameHostSide (sameHostSide_exec h)

/-! ## The forms inside the step (R84, R153, R155, R181, R183) -/

/-- The host port of a busy step passes only the input on (R53). -/
theorem eq_dropInput_of_busy {s u : State} (hb : s.busy = true) (hu : hostWrites s.input s.dropInput = .next u) :
    s.input.writes = [] ∧ u = s.dropInput := by
  obtain h | ⟨_, hb', _⟩ := hostWrites_next hu
  · exact h
  · exact absurd (hb'.symm.trans hb) nofun

/-- Settles O9: the strobe vector decodes to the strobes, and in SCAN the phase's own step is the form of the byte. -/
theorem stepRunsTheDecodedForm : Obligations.StepRunsTheDecodedForm := by
  refine fun s u i hu => ⟨fun hi => ?_, fun hp hin hr hi => ?_⟩
  · have hstrobe := decode_strobeByte s.cfg s.input.rst s.input.start (lenPort s.cfg s.input.len) []
    obtain rfl : s.strobe = i := by cases hstrobe.symm.trans hi; rfl
    exact step_of_hostWrites hu
  · have hb : s.busy = true := (busy_iff s).2 (.inr (.inl hp))
    obtain ⟨hw, rfl⟩ := eq_dropInput_of_busy hb hu
    obtain rfl : s.rawClass.toInstr = i := by cases hi; rfl
    obtain ⟨t, ht⟩ := execRaw_answers s.rawClass s
    have hown := exec_noStrobe_of_scan hp hin
    refine ⟨?_, hown, t, by rw [hown, exec_rawClass, ht]⟩
    rw [step_of_busy hb hr hw]
    exact exec_noStrobe_of_scan (s := s.begun) hp hin

/-- Where the close of a frame that passes its checks leads: it raised exactly if it ends in ERROR. -/
theorem finish_closeClass {s : State} (hp : s.phase = .scan) (f : State → State) :
    (closeClass (controlClass s.fr.ctrl) s).finish f =
      if (closeClass (controlClass s.fr.ctrl) s).state.phase = .error
      then (closeClass (controlClass s.fr.ctrl) s).state else f (closeClass (controlClass s.fr.ctrl) s).state := by
  obtain ⟨k, _, e⟩ | ⟨_, e | e⟩ := closeClass_outcomes s <;> rw [e]
  · simp [Flow.state, Flow.finish, State.reported, hp]
  · simp [Flow.state, Flow.finish, State.reported, hp]
  · simp [Flow.state, Flow.finish]

theorem finish_id (x : Flow) : x.finish id = x.state := by cases x <;> rfl

/-- A DRAIN step applies the slot's command and then writes window, drain counter and phase only (R183). -/
theorem drainStep_applies (s : State) :
    (drainStep s).x = (emitSlot (s.win.slot (s.win.cur + s.dk)) s).x ∧
      (drainStep s).y = (emitSlot (s.win.slot (s.win.cur + s.dk)) s).y ∧
      (drainStep s).out = (emitSlot (s.win.slot (s.win.cur + s.dk)) s).out := by
  unfold drainStep
  dsimp only
  split_ifs <;> exact ⟨rfl, rfl, rfl⟩

/-- Settles O10: the closing step is the control class's close with the end of the step after it, the I form's outcome
is that of the command field, and a DRAIN step is EMIT with the slot's bookkeeping. -/
theorem nestedFormsRunInsideTheStep : Obligations.NestedFormsRunInsideTheStep := by
  refine fun s => ⟨fun hp hrc hcrc i hi => ?_, fun ign seq i hi hno => ?_, fun hp k hk => ?_⟩
  · obtain rfl : (controlClass s.fr.ctrl).toInstr = i := by cases hi; rfl
    have hclose : closeFrame s = closeClass (controlClass s.fr.ctrl) s := by
      rw [closeFrame_of_good hrc hcrc, closeClass_controlClass]
    refine ⟨_, by rw [exec_controlClass, finish_id], ?_⟩
    change execFlagClose s = _
    rw [execFlagClose, hclose, finish_closeClass hp]
  · obtain rfl : (commandClass s.cfg s.fr.commandField).toInstr = i := by
      cases (decode_commandField s.cfg s.fr.commandField).symm.trans hi
      rfl
    change Host.Outcome.next ((dataOutcome (report .data seq s)).finish id) = _
    obtain ⟨k, hk, _⟩ | ⟨f, hf, e⟩ := dataOutcome_cases (report .data seq s)
    · have hk : commandClass s.cfg s.fr.commandField = .valid k := hk
      exact absurd (congrArg CommandClass.toInstr hk) (hno k)
    · have hf : commandClass s.cfg s.fr.commandField = .invalid f := hf
      rw [e, hf]
      rfl
  · obtain ⟨hx, hy, hout⟩ := drainStep_applies s
    rw [hk] at hx hy hout
    exact ⟨_, _, exec_toInstr k s, exec_noStrobe_of_drain hp, hx, hy, hout⟩

/-! ## The escape pair (R72) -/

/-- The step that reads the escape marker, inside the buffer (R122). -/
theorem escape_effect {s : State} (hin : s.ptr + 1 < s.len) :
    ∃ t, exec .esc s = .next t ∧ (∀ b, exec (.escPair b) s = exec (.escaped b) t) ∧ t.fr = s.fr.escape ∧
      t.phase = s.phase ∧ t.dk = s.dk ∧ t.ptr = s.ptr + 1 ∧ t.len = s.len ∧ t.errCode = s.errCode ∧ t.win = s.win ∧
      samePosition s t ∧ t.out = s.out ∧ sameHostSide s t := by
  have hne : s.ptr + 1 ≠ s.len := hin.ne
  refine ⟨_, rfl, fun b => rfl, advance_fr _, ?_, ?_, advance_ptr _, advance_len _, advance_errCode _, advance_win _,
    ⟨advance_x _, advance_y _⟩, advance_out _, sameHostSide_advance { s with fr := s.fr.escape }⟩
  · simp [advance_phase, hne]
  · simp [advance_dk, hne]

/-- Settles O15: the marker counts one raw byte, and the byte after it, placed destuffed, another. -/
theorem escapePairPlacesOneByte : Obligations.EscapePairPlacesOneByte := by
  intro b s hin
  obtain ⟨u, -, hpair, hfr, hphase, hdk, hptr, hlen, herr, hwin, ⟨hx, hy⟩, hout, hcfg, hinputs, hibuf⟩ :=
    escape_effect hin
  obtain ⟨t, ht, hplaced, hesc, hcursor, hwin', hpos, hev, hrep, hworld⟩ := escapedByteIsDestuffed b u
  obtain ⟨hrc, hn, hcrc, haddr, hctrl, hcmdb⟩ := hplaced
  obtain ⟨hptr', hlen', herr', hlast, hmore⟩ := hcursor
  have hrcu : u.fr.rc.toNat = min (s.fr.rc.toNat + 1) 7 := by rw [hfr]; exact toNat_satInc s.fr.rc
  rw [hcfg] at hcrc haddr hctrl hcmdb
  rw [hfr] at hn hcrc haddr hctrl hcmdb
  rw [hptr, hlen] at hlast hmore
  refine ⟨t, (hpair b).trans ht, by omega, hn, hcrc, haddr, hctrl, hcmdb, hesc, by rw [hptr', hptr],
    hlen'.trans hlen, herr'.trans herr, hlast, ?_, hwin'.trans hwin, ?_, ?_, ?_, ?_⟩
  · rwa [hphase, hdk] at hmore
  · exact ⟨hpos.1.trans hx, hpos.2.trans hy⟩
  · rwa [sameEvent, hout] at hev
  · rwa [sameReport, hout] at hrep
  · rwa [sameWorld, hcfg, hinputs, hibuf] at hworld

section
variable {s : State}

theorem input_of_inactive (hins : s.inputs = []) : s.input = {} := by
  rw [State.input, hins]
  rfl

/-- A busy step of an inactive host. -/
theorem step_of_busy_of_inactive (hb : s.busy = true) (hins : s.inputs = []) : step s = exec .noStrobe s.begun := by
  have hinput := input_of_inactive hins
  exact step_of_busy hb (by rw [hinput]) (by rw [hinput])

/-- A SCAN step of an inactive host. -/
theorem step_of_scan_of_inactive (hp : s.phase = .scan) (hins : s.inputs = []) (hin : s.ptr < s.len) :
    step s = exec s.rawClass.toInstr s.begun := by
  rw [step_of_busy_of_inactive ((busy_iff s).2 (.inr (.inl hp))) hins]
  exact exec_noStrobe_of_scan (s := s.begun) hp hin

end

/-- Settles O11: the first step is ESC, and the state it leaves reads `b` with the escape pending. -/
theorem escapePairIsTwoScanSteps : Obligations.EscapePairIsTwoScanSteps := by
  intro s b hp hins hin hesc he hb hef hbf
  obtain ⟨u, hu, hpair, hfr, hphase, -, hptr, hlen, -, -, -, hout, hcfg, hinputs, hibuf⟩ :=
    escape_effect (s := s.begun) hin
  have hinsu : u.inputs = [] := by rw [hinputs]; exact congrArg List.tail hins
  have hbegun : u.begun = u := by
    have hout' : u.out = {} := hout
    rw [State.begun, State.dropInput, defaultOutputs, hinsu, ← hout', List.tail_nil, ← hinsu]
  have hfirst : s.rawClass.toInstr = .esc := by
    rw [State.rawClass, hesc, he, rawClass_escByte hef.symm]
    rfl
  have hsecond : u.rawClass.toInstr = .escaped b := by
    have hesc' : u.fr.esc = true := by rw [hfr]; rfl
    have hread : u.ibuf.read u.ptr = b := by rw [hibuf, hptr]; exact hb
    have hbf' : b ≠ u.cfg.flagByte := by rw [hcfg]; exact hbf
    rw [State.rawClass, hesc', hread, rawClass_escaped hbf']
    rfl
  have hstep : step s = .next u := by rw [step_of_scan_of_inactive hp hins (by omega), hfirst, hu]
  have hin' : u.ptr < u.len := by rw [hptr, hlen]; exact hin
  have hstep' : step u = exec (.escaped b) u := by
    rw [step_of_scan_of_inactive (hphase.trans hp) hinsu hin', hsecond, hbegun]
  rw [hpair, run_succ_of_step hstep 1]
  exact run_succ_of_step hstep' 0

end Sys2Proof.Machine
end

section
/-! SUPPORT. Changed bytes (R107), stuffing (R74), and the frames that a producer makes (R88, R104, R157, R159). -/

namespace Sys2Proof.Machine

/-! ## The residue tells two bytes apart (R107) -/

/-- The top bit of 0x8408 tells, after a shift, whether the polynomial was XORed in, so no shift loses a value. -/
theorem crcShift_injective : Function.Injective (crcShift 0x8408#16) := by
  have hzero (v : Word16) (h : crcShift 0x8408#16 v = 0) : v = 0 := by
    cases hv : v.getLsbD 0 with
    | false =>
      rw [crcShift_of_even hv] at h
      ext i hi
      cases i with
      | zero => simpa [BitVec.getLsbD_eq_getElem] using hv
      | succ i =>
        have hbit := congrArg (·.getLsbD i) h
        simpa [Nat.add_comm 1 i, BitVec.getLsbD_eq_getElem hi] using hbit
    | true =>
      rw [crcShift_of_odd hv] at h
      have htop := congrArg (·.getLsbD 15) h
      simp at htop
  intro v w h
  have hxor : crcShift 0x8408#16 (v ^^^ w) = 0 := by rw [crcShift_xor, h, BitVec.xor_self]; rfl
  exact BitVec.xor_eq_zero_iff.1 (hzero _ hxor)

theorem crcShifts_injective (k : Nat) : Function.Injective (crcShifts 0x8408#16 k) := by
  induction k with
  | zero => exact fun _ _ h => h
  | succ k ih => exact fun _ _ h => crcShift_injective (ih h)

section
variable {cfg : Config} (hpoly : cfg.crcPolyR = 0x8408#16)
include hpoly

/-- Two accumulators, or two bytes, that differ still differ after CRC_UPDATE. -/
theorem xor_eq_of_crcUpdate_eq {v w : Word16} {b b' : Byte} (h : crcUpdate cfg v b = crcUpdate cfg w b') :
    v ^^^ b.setWidth 16 = w ^^^ b'.setWidth 16 := by
  simp only [crcUpdate, crcStep_eq_crcBitwise, hpoly] at h
  exact crcShifts_injective 8 h

theorem crcFold_injective (bs : List Byte) : Function.Injective fun v => crcFold cfg v bs := by
  induction bs with
  | nil => exact fun _ _ h => h
  | cons b bs ih => exact fun _ _ h => (BitVec.xor_left_inj _).1 (xor_eq_of_crcUpdate_eq hpoly (ih h))

end

/-- Settles O39: the accumulators are equal before the byte, different after it, and stay different. -/
theorem changedByteChangesTheResidue : Obligations.ChangedByteChangesTheResidue := by
  intro cfg before after b b' hpoly hne h
  rw [crcFold_append, crcFold_append] at h
  have hbytes := xor_eq_of_crcUpdate_eq hpoly (crcFold_injective hpoly after h)
  have hwide := (BitVec.xor_right_inj _).1 hbytes
  exact hne (by simpa using congrArg (BitVec.setWidth 8) hwide)

/-! ## Stuffing (R74) -/

section
variable {cfg : Config}

theorem stuff_cons (b : Byte) (bs : List Byte) : stuff cfg (b :: bs) = stuffByte cfg b ++ stuff cfg bs := rfl

theorem destuff_escape (b : Byte) (t : List Byte) :
    destuff cfg (cfg.escByte :: b :: t) = destuffed cfg b :: destuff cfg t := by
  rw [destuff, if_pos rfl]

theorem destuff_literal {b : Byte} (hb : b ≠ cfg.escByte) (t : List Byte) :
    destuff cfg (b :: t) = b :: destuff cfg t := by
  cases t with
  | nil => simp [destuff, hb]
  | cons b' t => rw [destuff, if_neg hb]

theorem danglingEscape_escape (b : Byte) (t : List Byte) :
    danglingEscape cfg (cfg.escByte :: b :: t) = danglingEscape cfg t := by
  rw [danglingEscape, if_pos rfl]

theorem danglingEscape_literal {b : Byte} (hb : b ≠ cfg.escByte) (t : List Byte) :
    danglingEscape cfg (b :: t) = danglingEscape cfg t := by
  cases t with
  | nil => simp [danglingEscape, hb]
  | cons b' t => rw [danglingEscape, if_neg hb]

/-- Destuffing inverts the bit that stuffing inverted (R72, R74). -/
theorem destuffed_xor (b : Byte) : destuffed cfg (b ^^^ cfg.escXor) = b := by
  rw [destuffed, BitVec.xor_assoc, BitVec.xor_self, BitVec.xor_zero]

/-- What a producer sends for one byte is read back as this byte, and leaves no escape pending. -/
theorem destuff_stuffByte (b : Byte) (t : List Byte) :
    destuff cfg (stuffByte cfg b ++ t) = b :: destuff cfg t ∧
      danglingEscape cfg (stuffByte cfg b ++ t) = danglingEscape cfg t := by
  unfold stuffByte
  split_ifs with h
  · have hpair := destuff_escape (cfg := cfg) (b ^^^ cfg.escXor) t
    rw [destuffed_xor] at hpair
    exact ⟨hpair, danglingEscape_escape _ t⟩
  · have hb : b ≠ cfg.escByte := fun he => h (.inr he)
    exact ⟨destuff_literal hb t, danglingEscape_literal hb t⟩

theorem ne_flagByte_of_mem_stuffByte (hwf : cfg.wf = true) {b x : Byte} (hx : x ∈ stuffByte cfg b) :
    x ≠ cfg.flagByte := by
  simp only [Config.wf, Bool.and_eq_true, bne_iff_ne] at hwf
  unfold stuffByte at hx
  split_ifs at hx with h
  · obtain rfl | rfl : x = cfg.escByte ∨ x = b ^^^ cfg.escXor := by simpa using hx
    · exact fun h => by simp_all
    · obtain rfl | rfl := h <;> simp_all
  · obtain rfl : x = b := by simpa using hx
    exact fun hf => h (.inl hf)

theorem destuff_stuff (bs : List Byte) : destuff cfg (stuff cfg bs) = bs := by
  induction bs with
  | nil => rfl
  | cons b bs ih => rw [stuff_cons, (destuff_stuffByte b _).1, ih]

theorem danglingEscape_stuff (bs : List Byte) : danglingEscape cfg (stuff cfg bs) = false := by
  induction bs with
  | nil => rfl
  | cons b bs ih => rw [stuff_cons, (destuff_stuffByte b _).2, ih]

theorem ne_flagByte_of_mem_stuff (hwf : cfg.wf = true) {bs : List Byte} {x : Byte} (hx : x ∈ stuff cfg bs) :
    x ≠ cfg.flagByte := by
  obtain ⟨_, _, hx⟩ := List.mem_flatMap.1 hx
  exact ne_flagByte_of_mem_stuffByte hwf hx

theorem length_le_length_stuff (bs : List Byte) : bs.length ≤ (stuff cfg bs).length := by
  induction bs with
  | nil => exact Nat.le_refl 0
  | cons b bs ih =>
    have hbyte : 1 ≤ (stuffByte cfg b).length := by
      unfold stuffByte
      split_ifs <;> simp
    rw [stuff_cons, List.length_append, List.length_cons]
    omega

end

/-- Settles O41, byte by byte. -/
theorem destuffingUndoesStuffing : Obligations.DestuffingUndoesStuffing :=
  fun _ bs hwf => ⟨destuff_stuff bs, fun _ => ne_flagByte_of_mem_stuff hwf, danglingEscape_stuff bs⟩

/-! ## The frames of a producer (R88, R104) -/

/-- What the interior of a produced frame leaves in the frame registers, when its body has an address and a control
byte: those of a frame that passes its checks (R139). -/
theorem feedAll_interior {cfg : Config} (hwf : cfg.wf = true) (hcons : crcConsistent cfg = true) (a ctrl : Byte)
    (payload : List Byte) {f : Frame}
    (hf : f = (Frame.fresh cfg).feedAll cfg (interior cfg (a :: ctrl :: payload))) :
    4 ≤ f.rc.toNat ∧ f.crc = cfg.crcGood ∧ f.addr = a ∧ f.ctrl = ctrl ∧ f.n.toNat = min (payload.length + 4) 7 ∧
      ∀ k more, payload = k :: more → f.cmdb = k := by
  have hcrc := (fcsGivesTheGoodResidue cfg).1 hcons (a :: ctrl :: payload)
  have hlen : payload.length + 4 = (a :: ctrl :: payload ++ fcsBytes cfg (a :: ctrl :: payload)).length := by
    simp [fcsBytes]
  have hraw := length_le_length_stuff (cfg := cfg) (a :: ctrl :: payload ++ fcsBytes cfg (a :: ctrl :: payload))
  rw [interior, feedAll_fresh cfg _ fun _ => ne_flagByte_of_mem_stuff hwf, destuff_stuff] at hf
  subst hf
  refine ⟨?_, eq_of_beq hcrc, rfl, rfl, ?_, ?_⟩
  · rw [Frame.ofSlice, toNat_satCount]
    omega
  · rw [Frame.ofSlice, toNat_satCount, hlen]
  · rintro k more rfl
    rfl

/-- Settles O42: the closing flag of the frame that the interior leaves delivers its command. -/
theorem producedDataFrameIsDelivered : Obligations.ProducedDataFrameIsDelivered := by
  intro s a ctrl k more hwf hcons hbit hfr
  obtain ⟨hrc, hcrc, haddr, hctrl, hn, hcmdb⟩ := feedAll_interior hwf hcons a ctrl _ hfr
  rw [List.length_cons] at hn
  obtain ⟨t, ht, hpush, hrep, hclear, hcursor, -⟩ :=
    (flagCloseDelivers s hrc hcrc hwf).1 k (by rwa [hctrl]) (by omega) (hcmdb _ more rfl)
  obtain ⟨hvalid, htype, hseq, haddr'⟩ := hrep
  obtain ⟨-, -, herr, -⟩ := hcursor
  exact ⟨t, ht, hpush, herr, hvalid, htype, by rw [hseq, hctrl], by rw [haddr', haddr], hclear⟩

/-- Settles O43: the closing flag of the frame that the interior leaves skips it. -/
theorem producedSupervisoryFrameIsSkipped : Obligations.ProducedSupervisoryFrameIsSkipped := by
  intro s a ctrl more hwf hcons hbit hfr
  obtain ⟨hrc, hcrc, haddr, hctrl, -, -⟩ := feedAll_interior hwf hcons a ctrl more hfr
  obtain ⟨t, ht, hrep, -, hcursor, hwin, hpos, hev, -⟩ :=
    (flagCloseDelivers s hrc hcrc hwf).2 (by rwa [hctrl])
  obtain ⟨hvalid, htype, hseq, haddr'⟩ := hrep
  obtain ⟨-, -, herr, -⟩ := hcursor
  refine ⟨t, ht, hwin, hpos, herr, hvalid, ?_, by rw [hseq, hctrl], by rw [haddr', haddr], hev⟩
  rw [htype]
  split_ifs <;> decide

end Sys2Proof.Machine
end

section
/-! SUPPORT. Runs of one command in the debounce window (R187), and how long a command waits in it (R186). -/

namespace Sys2Proof.Machine

/-! ## A run of one command (R187) -/

section
variable {q : Shift} {w : Window} {k : Command}

/-- A run that starts after another command, or after none, fills the register from the front and empties it with its
third push. -/
theorem push_run_of_three (h : q.q0 ≠ some k) :
    q.push k = ⟨some k, q.q0, q.q1⟩ ∧ (q.push k).push k = ⟨some k, some k, q.q0⟩ ∧
      ((q.push k).push k).push k = Shift.empty := by
  have h1 : q.push k = ⟨some k, q.q0, q.q1⟩ := push_of_not_run fun hrun => h hrun.1
  have h2 : (q.push k).push k = ⟨some k, some k, q.q0⟩ := by
    rw [h1]
    exact push_of_not_run fun hrun => h hrun.2
  refine ⟨h1, h2, ?_⟩
  rw [h2]
  exact push_of_run ⟨rfl, rfl⟩

theorem toShift_insertAll (w : Window) (ks : List Command) :
    (w.insertAll ks).toShift = ks.foldl Shift.push w.toShift := by
  induction ks generalizing w with
  | nil => rfl
  | cons k ks ih =>
    rw [List.foldl_cons, ← toShift_insert]
    exact ih (w.insert k)

/-- The register is empty exactly at the multiples of three of a run. -/
theorem foldl_push_run_eq_empty_iff (k : Command) :
    ∀ (m : Nat) (q : Shift), q.q0 ≠ some k →
      ((List.replicate (m + 1) k).foldl Shift.push q = Shift.empty ↔ (m + 1) % 3 = 0)
  | 0, q, h => by
    rw [List.replicate_one, List.foldl_cons, (push_run_of_three h).1]
    simp [Shift.empty]
  | 1, q, h => by
    have h2 := (push_run_of_three h).2.1
    simp [List.replicate_succ, h2, Shift.empty]
  | 2, q, h => by
    have h3 := (push_run_of_three h).2.2
    simp [List.replicate_succ, h3]
  | m + 3, q, h => by
    have hrest := foldl_push_run_eq_empty_iff k m Shift.empty nofun
    rw [List.replicate_succ, List.replicate_succ, List.replicate_succ, List.foldl_cons, List.foldl_cons,
      List.foldl_cons, (push_run_of_three h).2.2, hrest]
    omega

/-- The window along a run that starts when it is empty. -/
theorem insert_run_of_empty (h : w.toShift = Shift.empty) (k : Command) :
    (w.insert k).toShift = ⟨some k, none, none⟩ ∧ ((w.insert k).insert k).toShift = ⟨some k, some k, none⟩ ∧
      (((w.insert k).insert k).insert k).toShift = Shift.empty := by
  simp only [toShift_insert, h]
  exact push_run_of_three nofun

theorem emitted_cons (w : Window) (k : Command) (ks : List Command) :
    w.emitted (k :: ks) = w.toShift.q2.toList ++ (w.insert k).emitted ks := rfl

theorem insertAll_cons (w : Window) (k : Command) (ks : List Command) :
    w.insertAll (k :: ks) = (w.insert k).insertAll ks := rfl

theorem emitted_nil_append_drained (w : Window) : w.emitted [] ++ (w.insertAll []).drained = w.toShift.pending := rfl

/-- What a run emits and then leaves to the drain, from the empty register: each three pushes emit nothing and leave the
register empty again. -/
theorem emitted_run_append_drained (k : Command) (m : Nat) (w : Window) (h : w.toShift = Shift.empty) :
    w.emitted (List.replicate m k) ++ (w.insertAll (List.replicate m k)).drained = List.replicate (m % 3) k := by
  have h0 : w.toShift.q2 = none := by rw [h]; rfl
  obtain ⟨h1, h2, h3⟩ := insert_run_of_empty h k
  match m with
  | 0 => rw [List.replicate_zero, emitted_nil_append_drained, h]; rfl
  | 1 =>
    rw [List.replicate_one, emitted_cons, insertAll_cons, h0, List.append_assoc, emitted_nil_append_drained, h1]
    rfl
  | 2 =>
    simp only [List.replicate_succ, List.replicate_zero, emitted_cons, insertAll_cons, List.append_assoc,
      emitted_nil_append_drained, h0, h1, h2]
    rfl
  | m + 3 =>
    rw [Nat.add_mod_right, ← emitted_run_append_drained k m _ h3]
    simp [List.replicate_succ, emitted_cons, insertAll_cons, h0, h1, h2]

end

/-- Settles O45, on the shift register: three pushes of a run at a time. -/
theorem runsSuppressEveryThird : Obligations.RunsSuppressEveryThird := by
  refine ⟨fun w k h m hm => ?_, fun k m => emitted_run_append_drained k m Window.empty rfl⟩
  obtain ⟨m, rfl⟩ := Nat.exists_eq_add_of_lt hm
  rw [toShift_insertAll, Nat.zero_add]
  exact foldl_push_run_eq_empty_iff k m w.toShift h

/-! ## How long a command waits (R186) -/

/-- A push that leaves its command in the register completed no triple. -/
theorem push_of_kept {q : Shift} {k : Command} (h : (q.push k).q0 = some k) : q.push k = ⟨some k, q.q0, q.q1⟩ :=
  push_of_not_run fun hrun => by
    rw [push_of_run hrun] at h
    exact nomatch h

/-- Settles O47: each of the three pushes moves the commands before it one stage on. -/
theorem commandWaitsThreePushes : Obligations.CommandWaitsThreePushes := by
  intro w a b c ha hb hc
  have holdest : (((w.insert a).insert b).insert c).oldest = (((w.insert a).insert b).insert c).toShift.q2 := rfl
  simp only [toShift_insert] at ha hb hc holdest
  rw [holdest, push_of_kept hc, push_of_kept hb, push_of_kept ha]

end Sys2Proof.Machine
end

section
/-! SUPPORT. How long a run takes (R225, R226, R231). -/

namespace Sys2Proof.Machine

/-- How many more steps a busy phase may take: CHECK, one step a byte, and the three of DRAIN. -/
def State.remaining (s : State) : Nat :=
  match s.phase with
  | .check => s.len + 4
  | .scan => s.len - s.ptr + 3
  | .drain => 3 - s.dk.val
  | .idle => 0
  | .done => 0
  | .error => 0

/-- The run is over, or goes on with fewer steps to take than `s` has. -/
def endsOrProgresses (s t : State) : Prop :=
  (t.phase = .done ∨ t.phase = .error) ∨ (t.busy = true ∧ t.remaining < s.remaining)

section
variable {s t : State}

theorem remaining_of_check (hp : s.phase = .check) : s.remaining = s.len + 4 := by simp [State.remaining, hp]

theorem remaining_of_scan (hp : s.phase = .scan) : s.remaining = s.len - s.ptr + 3 := by simp [State.remaining, hp]

theorem remaining_of_drain (hp : s.phase = .drain) : s.remaining = 3 - s.dk.val := by simp [State.remaining, hp]

theorem remaining_bounds (hb : s.busy = true) : 0 < s.remaining ∧ s.remaining ≤ s.len + 4 := by
  obtain hp | hp | hp := (busy_iff s).1 hb
  · rw [remaining_of_check hp]
    omega
  · rw [remaining_of_scan hp]
    omega
  · rw [remaining_of_drain hp]
    omega

theorem endsOrProgresses_checkBuffer (hp : s.phase = .check) : endsOrProgresses s (checkBuffer s) := by
  obtain ⟨hlen, _, _, _⟩ := checkBuffer_keeps_run s
  obtain hnext | hnext | hnext := checkBuffer_phase s
  · refine .inr ⟨(busy_iff _).2 (.inr (.inr hnext)), ?_⟩
    rw [remaining_of_drain hnext, remaining_of_check hp]
    omega
  · exact .inl (.inr hnext)
  · refine .inr ⟨(busy_iff _).2 (.inr (.inl hnext)), ?_⟩
    rw [remaining_of_scan hnext, remaining_of_check hp]
    omega

theorem endsOrProgresses_scanOutcome (hp : s.phase = .scan) (hin : s.ptr < s.len) (ho : ScanOutcome s t) :
    endsOrProgresses s t := by
  have hlen := scanOutcome_len ho
  obtain ⟨herr, _⟩ | ⟨hptr, hnext⟩ := scanOutcome_cursor hp ho
  · exact .inl (.inr herr)
  · split_ifs at hnext
    · refine .inr ⟨(busy_iff t).2 (.inr (.inr hnext)), ?_⟩
      rw [remaining_of_drain hnext, remaining_of_scan hp]
      omega
    · refine .inr ⟨(busy_iff t).2 (.inr (.inl hnext)), ?_⟩
      rw [remaining_of_scan hnext, remaining_of_scan hp]
      omega

theorem endsOrProgresses_drainStep (hp : s.phase = .drain) : endsOrProgresses s (drainStep s) := by
  have hnext := drainStep_phase s
  by_cases hdk : s.dk = 2
  · rw [if_pos hdk] at hnext
    exact .inl (.inl hnext)
  · have hmore : (drainStep s).dk.val = s.dk.val + 1 := by
      rw [drainStep_dk, if_neg hdk]
      exact Fin.val_add_one_of_lt (Fin.lt_last_iff_ne_last.2 hdk)
    rw [if_neg hdk, hp] at hnext
    refine .inr ⟨(busy_iff _).2 (.inr (.inr hnext)), ?_⟩
    rw [remaining_of_drain hnext, remaining_of_drain hp]
    omega

theorem phaseStep_endsOrProgresses (hinv : Inv s) (hb : s.busy = true) (h : phaseStep s = .next t) :
    endsOrProgresses s t := by
  obtain ⟨hp, rfl⟩ | ⟨hp, ho⟩ | ⟨hp, rfl⟩ := phaseStep_busy hb h
  · exact endsOrProgresses_checkBuffer hp
  · exact endsOrProgresses_scanOutcome hp (hinv.legal.scanInside hp) ho
  · exact endsOrProgresses_drainStep hp

/-- A busy step of a host that neither resets nor writes. -/
theorem step_endsOrProgresses (hinv : Inv s) (hb : s.busy = true) (hr : s.input.rst = false)
    (hw : s.input.writes = []) : ∃ t, step s = .next t ∧ endsOrProgresses s t := by
  have hduty : dutiesKept s := ⟨fun h => absurd hw h, fun _ _ hnb => absurd (hnb.symm.trans hb) nofun⟩
  obtain ⟨t, ht⟩ := dutifulHostIsNeverStopped s hinv hduty
  exact ⟨t, ht, phaseStep_endsOrProgresses (s := s.entered) hinv.entered hb (phaseStep_entered_of_busy ht hb hr)⟩

end

/-- A run lasts no longer than its first state says, by induction on the steps that may remain. -/
theorem run_ends (n : Nat) {s : State} (hinv : Inv s) (hb : s.busy = true)
    (hq : ∀ h ∈ s.inputs, h.rst = false ∧ h.writes = []) (hn : s.remaining ≤ n) :
    ∃ k t, k ≤ n ∧ core.run k s = .next t ∧ (t.phase = .done ∨ t.phase = .error) := by
  induction n generalizing s with
  | zero => exact absurd (remaining_bounds hb).1 (Nat.not_lt.2 hn)
  | succ n ih =>
    obtain ⟨hr, hw⟩ := (quiet_input_and_tail (n := 0) fun i hi => hq i (List.mem_of_mem_take hi)).1
    obtain ⟨t, ht, hend | ⟨hbt, hless⟩⟩ := step_endsOrProgresses hinv hb hr hw
    · exact ⟨1, t, by omega, run_succ_of_step ht 0, hend⟩
    · have htail : t.inputs = s.inputs.tail := (sameHostSide_step ht).2.1
      obtain ⟨k, u, hk, hu, hend⟩ := ih (inv_step s t hinv ht) hbt
        (fun i hi => hq i (List.mem_of_mem_tail (htail ▸ hi))) (by omega)
      exact ⟨k + 1, u, by omega, (run_succ_of_step ht k).trans hu, hend⟩

/-- Settles O53: a busy phase has at most LEN + 4 steps to take. -/
theorem everyRunEnds : Obligations.EveryRunEnds :=
  fun s hinv hb hq => run_ends (s.len + 4) hinv hb hq (remaining_bounds hb).2

end Sys2Proof.Machine
end

section
/-! SUPPORT. A whole run as the slice form (R139, R162, R184, R188, R231, R253): the SCAN steps read the frames of the
buffer one after the other, and each frame's close is the slice form's. -/

namespace Sys2Proof.Machine

/-! ## The end of a run -/

/-- A run's result in slice form: the error that ended it, if any, and the final position. -/
abbrev RunResult := Option ErrorKind × (BitVec 3 × BitVec 3)

/-- `t` has ended the run with this result. -/
def State.shows (t : State) (r : RunResult) : Prop :=
  (t.x, t.y) = r.2 ∧
    match r.1 with
    | none => t.phase = .done ∧ t.errCode = 0
    | some e => t.phase = .error ∧ t.errCode = e.code

/-- `n` steps from `s` end the run with this result. -/
def endsIn (n : Nat) (s : State) (r : RunResult) : Prop := ∃ t, core.run n s = .next t ∧ t.shows r

section
variable {s t : State} {n : Nat} {r : RunResult}

theorem endsIn_succ (hstep : step s = .next t) (h : endsIn n t r) : endsIn (n + 1) s r := by
  obtain ⟨u, hu, hshows⟩ := h
  exact ⟨u, (run_succ_of_step hstep n).trans hu, hshows⟩

theorem not_busy_of_shows (h : s.shows r) : s.busy = false := by
  obtain ⟨_, hend⟩ := h
  refine (not_busy_iff s).2 (.inr ?_)
  split at hend
  · exact .inl hend.1
  · exact .inr hend.1

/-- With an inactive host a state that is not busy holds (R227, R228). -/
theorem step_of_held (hb : s.busy = false) (hins : s.inputs = []) : step s = .next s.begun := by
  have hinput := input_of_inactive hins
  have hnone : s.strobe = .noStrobe := by rw [State.strobe, hinput]; rfl
  rw [step_of_hostWrites (hostWrites_nil _ (by rw [hinput])), hnone]
  exact exec_noStrobe_of_not_busy (s := s.begun) hb

/-- A run that has ended keeps its result. -/
theorem endsIn_of_shows (hins : s.inputs = []) (h : s.shows r) : endsIn n s r := by
  induction n generalizing s with
  | zero => exact ⟨s, rfl, h⟩
  | succ n ih => exact endsIn_succ (step_of_held (not_busy_of_shows h) hins) (ih (congrArg List.tail hins) h)

/-- DRAIN applies what is left in the window, oldest first (R183, R184). -/
theorem endsIn_of_drain (hins : s.inputs = []) (hp : s.phase = .drain) (hdk : s.dk = 0) (herr : s.errCode = 0) :
    endsIn 3 s (none, movedAll (s.x, s.y) s.win.toShift.pending) := by
  obtain ⟨_, _, t, _, _, ht, _, _, _, _, hdone, herr', hpos, _⟩ :=
    drainTakesThreeSteps s hp hdk (by simp [hins])
  exact ⟨t, ht, hpos, hdone, herr'.trans herr⟩

end

/-! ## One frame of the buffer (R155, R162) -/

/-- `n` bytes of IBUF from address `a` on. -/
def Memory.bytesFrom (m : Memory) (a n : Nat) : List Byte := (List.range' a n).map m.read

theorem bytesFrom_succ (m : Memory) (a n : Nat) : m.bytesFrom a (n + 1) = m.read a :: m.bytesFrom (a + 1) n := rfl

section
variable {cfg : Config} (run t : List Byte)

theorem framesFrom_cons_of_ne {b : Byte} (hb : b ≠ cfg.flagByte) :
    framesFrom cfg run (b :: t) = framesFrom cfg (run ++ [b]) t := by
  rw [framesFrom, if_neg hb]

theorem framesFrom_flag_boundary : framesFrom cfg [] (cfg.flagByte :: t) = framesFrom cfg [] t := by
  rw [framesFrom, if_pos rfl, if_pos rfl]

theorem framesFrom_flag_close {run : List Byte} (hrun : run ≠ []) :
    framesFrom cfg run (cfg.flagByte :: t) = run :: framesFrom cfg [] t := by
  rw [framesFrom, if_pos rfl, if_neg hrun]

end

/-- The result of a run whose frames gave this: without an error the window is drained (R184). -/
def drainedResult : Option ErrorKind × Shift × (BitVec 3 × BitVec 3) → RunResult
  | (some e, _, p) => (some e, p)
  | (none, q, p) => (none, movedAll p q.pending)

/-- The slice form of the rest of a run, when `run` is the frame being read and `rest` are the bytes to come. -/
def State.restResult (s : State) (run rest : List Byte) : RunResult :=
  drainedResult (runFrames s.cfg (framesFrom s.cfg run rest) s.win.toShift (s.x, s.y))

/-- `s` is in SCAN with an inactive host, has read `run` since the last flag, and has `n` bytes to read after the next
one, the last of them a flag. -/
structure Scanning (s : State) (run : List Byte) (n : Nat) : Prop where
  phase : s.phase = .scan
  inactive : s.inputs = []
  noError : s.errCode = 0
  left : s.ptr + (n + 1) = s.len
  lastFlag : s.ibuf.read (s.len - 1) = s.cfg.flagByte
  noFlag : ∀ b ∈ run, b ≠ s.cfg.flagByte
  frame : s.fr = (Frame.fresh s.cfg).feedAll s.cfg run

section
variable {s t : State} {run : List Byte} {n : Nat}

theorem Scanning.begun (h : Scanning s run n) : Scanning s.begun run n :=
  ⟨h.phase, congrArg List.tail h.inactive, h.noError, h.left, h.lastFlag, h.noFlag, h.frame⟩

/-- A byte that is no flag belongs to the frame being read. -/
theorem Scanning.reads (h : Scanning s run n) {b : Byte} (hb : b ≠ s.cfg.flagByte) :
    Scanning { s with fr := s.fr.feed s.cfg b } (run ++ [b]) n where
  phase := h.phase
  inactive := h.inactive
  noError := h.noError
  left := h.left
  lastFlag := h.lastFlag
  noFlag := fun c hc => by
    obtain hc | hc := List.mem_append.1 hc
    · exact h.noFlag c hc
    · obtain rfl := List.mem_singleton.1 hc
      exact hb
  frame := by
    change s.fr.feed s.cfg b = _
    rw [h.frame, Frame.feedAll, Frame.feedAll, List.foldl_append]
    rfl

/-- After a flag no frame is open, whatever the close did to window, position and outputs. -/
theorem Scanning.frameReset (h : Scanning s run n) (hseq : sameSequencer s t) (hhost : sameHostSide s t) :
    Scanning (frameReset t) [] n := by
  obtain ⟨hphase, hlen, hptr, _, herr⟩ := hseq
  obtain ⟨hcfg, hinputs, hibuf⟩ := hhost
  exact
    { phase := hphase.trans h.phase
      inactive := hinputs.trans h.inactive
      noError := herr.trans h.noError
      left := by
        have hleft := h.left
        simp only [frameReset_ptr, frameReset_len]
        omega
      lastFlag := by
        simp only [frameReset_ibuf, frameReset_len, frameReset_cfg, hibuf, hlen, hcfg]
        exact h.lastFlag
      noFlag := nofun
      frame := rfl }

theorem Scanning.advance (h : Scanning s run (n + 1)) : Scanning (advance s) run n where
  phase := by
    have hleft := h.left
    rw [advance_phase, if_neg (by omega), h.phase]
  inactive := by rw [advance_inputs, h.inactive]
  noError := by rw [advance_errCode, h.noError]
  left := by
    have hleft := h.left
    rw [advance_ptr, advance_len]
    omega
  lastFlag := by rw [advance_ibuf, advance_len, advance_cfg, h.lastFlag]
  noFlag := by rw [advance_cfg]; exact h.noFlag
  frame := by rw [advance_fr, advance_cfg, h.frame]

theorem restResult_advance (s : State) (run rest : List Byte) :
    (advance s).restResult run rest = s.restResult run rest := by
  simp [State.restResult]

/-- The register tells whether a frame is open (R154, R155). -/
theorem Scanning.run_eq_nil_iff (h : Scanning s run n) : s.fr.rc = 0 ↔ run = [] := by
  rw [h.frame, feedAll_fresh _ _ h.noFlag]
  exact (satCount_eq_ofNat_iff (j := 0) (by decide) run.length).trans List.length_eq_zero_iff

end

/-! ## One byte of the buffer (R153) -/

/-- With `n` bytes left to read after the step, a SCAN step that moves the cursor on leaves a state whose run ends as
the slice form says. -/
def AdvanceEnds (n : Nat) : Prop :=
  ∀ (s : State) (run : List Byte), Scanning s run n → (n = 0 → run = []) →
    endsIn (n + 3) (advance s) (s.restResult run (s.ibuf.bytesFrom (s.ptr + 1) n))

/-- The same of the state that reads the byte before these. -/
def ScanEnds (n : Nat) : Prop :=
  ∀ (s : State) (run : List Byte), Scanning s run n →
    endsIn (n + 4) s (s.restResult run (s.ibuf.bytesFrom s.ptr (n + 1)))

/-- After the last byte comes DRAIN. -/
theorem advanceEnds_zero : AdvanceEnds 0 := by
  intro s run h hrun
  obtain rfl := hrun rfl
  have hlast : s.ptr + 1 = s.len := h.left
  have hdrain := endsIn_of_drain (s := advance s) (by rw [advance_inputs, h.inactive])
    (by rw [advance_phase, if_pos hlast]) (by rw [advance_dk, if_pos hlast]) (by rw [advance_errCode, h.noError])
  rwa [advance_x, advance_y, advance_win] at hdrain

theorem advanceEnds_succ {n : Nat} (h : ScanEnds n) : AdvanceEnds (n + 1) := by
  intro s run hs _
  have hrest := h (advance s) run hs.advance
  rwa [restResult_advance, advance_ibuf, advance_ptr] at hrest

/-- What one byte does in SCAN: it goes into the frame, it is a flag at a boundary, or it closes the frame. -/
theorem execRaw_next_feed {s t : State} (h : execRaw s.rawClass s = .next t) :
    (s.ibuf.read s.ptr ≠ s.cfg.flagByte ∧ t = advance { s with fr := s.fr.feed s.cfg (s.ibuf.read s.ptr) }) ∨
    (s.ibuf.read s.ptr = s.cfg.flagByte ∧ s.fr.rc = 0 ∧ t = advance (frameReset s)) ∨
    (s.ibuf.read s.ptr = s.cfg.flagByte ∧ s.fr.rc ≠ 0 ∧
      t = (closeFrame s).finish (fun t => advance (frameReset t))) := by
  obtain hflag | hflag | ⟨hb, he, rfl⟩ | ⟨hb, he, hbe, rfl⟩ | ⟨hb, he, hbe, rfl⟩ := execRaw_next h
  · exact .inr (.inl hflag)
  · exact .inr (.inr hflag)
  · exact .inl ⟨hb, by rw [feed_escaped hb he]⟩
  · exact .inl ⟨hb, by rw [feed_escape hb he hbe]⟩
  · exact .inl ⟨hb, by rw [feed_literal hb he hbe]⟩

section
variable {s t : State} {run : List Byte} {n : Nat}

/-- The byte that a SCAN step reads and the bytes after it, as the slice form sees them. -/
theorem restResult_bytesFrom_of_ne (run : List Byte) (n : Nat) (hb : s.ibuf.read s.ptr ≠ s.cfg.flagByte) :
    s.restResult run (s.ibuf.bytesFrom s.ptr (n + 1)) =
      s.restResult (run ++ [s.ibuf.read s.ptr]) (s.ibuf.bytesFrom (s.ptr + 1) n) := by
  rw [bytesFrom_succ, State.restResult, framesFrom_cons_of_ne _ _ hb]
  rfl

theorem restResult_bytesFrom_boundary (n : Nat) (hb : s.ibuf.read s.ptr = s.cfg.flagByte) :
    s.restResult [] (s.ibuf.bytesFrom s.ptr (n + 1)) = s.restResult [] (s.ibuf.bytesFrom (s.ptr + 1) n) := by
  rw [bytesFrom_succ, hb, State.restResult, framesFrom_flag_boundary]
  rfl

theorem restResult_bytesFrom_close (n : Nat) (hrun : run ≠ []) (hb : s.ibuf.read s.ptr = s.cfg.flagByte) :
    s.restResult run (s.ibuf.bytesFrom s.ptr (n + 1)) =
      drainedResult (runFrames s.cfg (run :: framesFrom s.cfg [] (s.ibuf.bytesFrom (s.ptr + 1) n)) s.win.toShift
        (s.x, s.y)) := by
  rw [bytesFrom_succ, hb, State.restResult, framesFrom_flag_close _ hrun]

/-- After a close that raised nothing the run goes on with the frames after this one. -/
theorem endsIn_of_goes (hn : AdvanceEnds n) (h : Scanning s run n) (hseq : sameSequencer s t)
    (hhost : sameHostSide s t) :
    endsIn (n + 3) (advance (frameReset t))
      (drainedResult (runFrames s.cfg (framesFrom s.cfg [] (s.ibuf.bytesFrom (s.ptr + 1) n)) t.win.toShift
        (t.x, t.y))) := by
  have hrest := hn (frameReset t) [] (h.frameReset hseq hhost) fun _ => rfl
  obtain ⟨_, _, hptr, _⟩ := hseq
  obtain ⟨hcfg, _, hibuf⟩ := hhost
  rwa [State.restResult, frameReset_cfg, frameReset_ibuf, frameReset_ptr, hcfg, hibuf, hptr] at hrest

/-- An error ends the run where it is raised (R252, R253). -/
theorem endsIn_of_raised (e : ErrorKind) (hins : t.inputs = []) :
    endsIn n (raiseError e t) (some e, (t.x, t.y)) :=
  endsIn_of_shows hins ⟨rfl, rfl, rfl⟩

theorem push_position (k : Command) (s : State) :
    ((push k s).x, (push k s).y) = movedAll (s.x, s.y) s.win.toShift.q2.toList :=
  emitSlot_position s.win.oldest s

/-- The flag that closes a frame ends the run with the error of the slice form, or goes on with the next frame. -/
theorem endsIn_of_close (hn : AdvanceEnds n) (h : Scanning s run n) (hrun : run ≠ []) :
    endsIn (n + 3) ((closeFrame s).finish (fun t => advance (frameReset t)))
      (drainedResult (runFrames s.cfg (run :: framesFrom s.cfg [] (s.ibuf.bytesFrom (s.ptr + 1) n)) s.win.toShift
        (s.x, s.y))) := by
  obtain ⟨_, _, _, _, _, _, _, hclose⟩ := byteSerialFrameIsTheSliceForm s.cfg run hrun h.noFlag
  rw [hclose s rfl h.frame, ← h.frame, runFrames]
  cases closeSlice s.cfg run with
  | error e => exact endsIn_of_raised e h.inactive
  | skip => exact endsIn_of_goes (t := s.reported) hn h ⟨rfl, rfl, rfl, rfl, rfl⟩ ⟨rfl, rfl, rfl⟩
  | data field =>
    dsimp only
    cases commandClass s.cfg field with
    | invalid f => exact endsIn_of_raised (t := s.reported) .invalidCommand h.inactive
    | valid k =>
      have hnext := endsIn_of_goes (t := push k s.reported) hn h (by simp [sameSequencer, State.reported])
        (sameHostSide_push k s.reported)
      rwa [push_position, push_win, toShift_insert] at hnext

end

/-- A SCAN step, by its byte. -/
theorem scanEnds_of_advanceEnds {n : Nat} (hn : AdvanceEnds n) : ScanEnds n := by
  intro s run h
  have hb : s.busy = true := (busy_iff s).2 (.inr (.inl h.phase))
  have hin : s.ptr < s.len := by have hleft := h.left; omega
  obtain ⟨t, ht⟩ := execRaw_answers s.begun.rawClass s.begun
  have hstep : step s = .next t := by
    rw [step_of_scan_of_inactive h.phase h.inactive hin, ← ht, ← exec_rawClass]
    rfl
  refine endsIn_succ hstep ?_
  have hbegun := h.begun
  change endsIn _ t (s.begun.restResult run (s.begun.ibuf.bytesFrom s.begun.ptr (n + 1)))
  obtain ⟨hb, rfl⟩ | ⟨hb, hrc, rfl⟩ | ⟨hb, hrc, rfl⟩ := execRaw_next_feed ht
  · rw [restResult_bytesFrom_of_ne run n hb]
    refine hn _ _ (hbegun.reads hb) fun h0 => absurd ?_ hb
    have hlast : s.begun.ptr = s.begun.len - 1 := by have hleft := hbegun.left; omega
    rw [hlast, hbegun.lastFlag]
  · obtain rfl := hbegun.run_eq_nil_iff.1 hrc
    rw [restResult_bytesFrom_boundary n hb]
    exact hn _ _ (hbegun.frameReset ⟨rfl, rfl, rfl, rfl, rfl⟩ ⟨rfl, rfl, rfl⟩) fun _ => rfl
  · have hrun := mt hbegun.run_eq_nil_iff.2 hrc
    rw [restResult_bytesFrom_close n hrun hb]
    exact endsIn_of_close hn hbegun hrun

theorem scanEnds (n : Nat) : ScanEnds n := by
  induction n with
  | zero => exact scanEnds_of_advanceEnds advanceEnds_zero
  | succ n ih => exact scanEnds_of_advanceEnds (advanceEnds_succ ih)

/-! ## The whole run (R150, R222, R231) -/

theorem bytes_eq_bytesFrom (m : Memory) (len : Nat) : m.bytes len = m.bytesFrom 0 len := by
  rw [Memory.bytes, List.range_eq_range']
  rfl

theorem bytes_ne_nil (m : Memory) (n : Nat) : m.bytes (n + 1) ≠ [] := by
  rw [bytes_eq_bytesFrom, bytesFrom_succ]
  exact nofun

theorem headD_bytes (m : Memory) (n : Nat) : (m.bytes (n + 1)).headD 0x00 = m.read 0 := by
  rw [bytes_eq_bytesFrom, bytesFrom_succ]
  rfl

theorem getLastD_bytes (m : Memory) (n : Nat) : (m.bytes (n + 1)).getLastD 0x00 = m.read n := by
  rw [Memory.bytes, List.range_succ, List.map_append]
  exact List.getLastD_concat ..

/-- The slice form of the whole buffer is that of its frames from a fresh run, after the checks of R150. -/
theorem runSlice_bytes (cfg : Config) (m : Memory) (n : Nat) :
    runSlice cfg (m.bytes (n + 1)) =
      if m.read 0 ≠ cfg.flagByte then (some .noStartFlag, (Config.startX, Config.startY))
      else if m.read n ≠ cfg.flagByte then (some .noEndFlag, (Config.startX, Config.startY))
      else drainedResult (runFrames cfg (framesFrom cfg [] (m.bytesFrom 0 (n + 1))) Shift.empty
        (Config.startX, Config.startY)) := by
  unfold runSlice
  dsimp only
  rw [if_neg (bytes_ne_nil m n), headD_bytes, getLastD_bytes, bytes_eq_bytesFrom]
  rfl

/-- The CHECK step of a run that has just started, and what follows it. -/
theorem endsIn_of_check {s : State} (hins : s.inputs = []) (len : Nat) :
    endsIn (len + 4) (startRun len s) (runSlice s.cfg (s.ibuf.bytes len)) := by
  have hstep : step (startRun len s) = .next (checkBuffer (startRun len s).begun) := by
    rw [step_of_busy_of_inactive (s := startRun len s) rfl hins]
    exact exec_noStrobe_of_check rfl
  refine endsIn_succ hstep ?_
  have hins' : (startRun len s).begun.inputs = [] := congrArg List.tail hins
  cases len with
  | zero => exact endsIn_of_drain (s := enterDrain _) hins' rfl rfl rfl
  | succ n =>
    rw [runSlice_bytes]
    obtain ⟨h0, _⟩ | ⟨_, h1, e⟩ | ⟨_, h1, h2, e⟩ | ⟨_, h1, h2, e⟩ := checkBuffer_cases (startRun (n + 1) s).begun
    · exact absurd h0 (Nat.succ_ne_zero n)
    · have h1 : s.ibuf.read 0 ≠ s.cfg.flagByte := h1
      rw [e, if_pos h1]
      exact endsIn_of_raised .noStartFlag hins'
    · have h1 : s.ibuf.read 0 = s.cfg.flagByte := h1
      have h2 : s.ibuf.read n ≠ s.cfg.flagByte := h2
      rw [e, if_neg (not_not_intro h1), if_pos h2]
      exact endsIn_of_raised .noEndFlag hins'
    · have h1 : s.ibuf.read 0 = s.cfg.flagByte := h1
      have h2 : s.ibuf.read n = s.cfg.flagByte := h2
      rw [e, if_neg (not_not_intro h1), if_neg (not_not_intro h2)]
      exact scanEnds n _ [] ⟨rfl, hins', rfl, Nat.zero_add _, h2, nofun, rfl⟩

/-- Settles O54: START begins the run of `endsIn_of_check`, and `endsIn` is the statement's conclusion. -/
theorem runIsTheSliceForm : Obligations.RunIsTheSliceForm := by
  intro s len hb hins hfits hdepth
  have hinput : s.input = { start := true, len := len } := by rw [State.input, hins]; rfl
  have hstrobe : s.strobe = .start len := by
    rw [State.strobe, hinput, lenPort, Nat.mod_eq_of_lt hfits]
    rfl
  have hstep : step s = .next (startRun len s.begun) := by
    rw [step_of_hostWrites (hostWrites_nil _ (by rw [hinput])), hstrobe]
    exact exec_start_of_not_busy (s := s.begun) hb hdepth
  exact endsIn_succ hstep (endsIn_of_check (s := s.begun) (congrArg List.tail hins) len)

end Sys2Proof.Machine
end
